-- ==== Sys2Proof/Word.lean ====
section
/-! DEFINITION. The machine's word types (spec R12, R42, R110): unsigned words, bit 0 the least significant. -/

namespace Sys2Proof

/-- A 32-bit word: a command word, a status register, the value of a response (R42, R110). -/
abbrev Word := BitVec 32

/-- An 8-bit value: a text byte, a codeword, a coefficient, an operand field `a`, `b` or `c` (R110). -/
abbrev Byte := BitVec 8

/-- A 16-bit operand field `imm16` (R110). -/
abbrev Half := BitVec 16

/-- `zext_32` of an integer result (R15): the value field of a response and an info value. -/
abbrev zext32 (n : Nat) : Word := BitVec.ofNat 32 n

end Sys2Proof
end

