-- ==== Sys2Proof/Syntax.lean ====
section
/-! DEFINITION. The command set F8Q version 1 (spec R2, R113): one constructor per row of spec/opcode_table.json.
An operand field is the unsigned integer it stands for, 8 or 16 bits wide (R110, R112). -/

namespace Sys2Proof

/-- The 54 commands of R113, in the table's order.  The comment on each is its mnemonic. -/
inductive Instr where
  | nop                                   -- NOP
  | jobNew                                -- JOB.NEW
  | srRd (a : Byte)                       -- SR.RD
  | encodeJob                             -- ENCODE
  | tblRd (a b c : Byte)                  -- TBL.RD
  | txtPush (a : Byte)                    -- TXT.PUSH
  | txtRd (imm16 : Half)                  -- TXT.RD
  | vsel                                  -- VSEL
  | vset (a : Byte)                       -- VSET
  | bsb                                   -- BSB
  | dcwPush (a : Byte)                    -- DCW.PUSH
  | dcwSeal                               -- DCW.SEAL
  | bitsRd (a : Byte) (imm16 : Half)      -- BITS.RD
  | bitsRdb (a : Byte) (imm16 : Half)     -- BITS.RDB
  | gfExp (a : Byte)                      -- GF.EXP
  | gfLog (a : Byte)                      -- GF.LOG
  | gfMul (a b : Byte)                    -- GF.MUL
  | gfAdd (a b : Byte)                    -- GF.ADD
  | pClr (a : Byte)                       -- P.CLR
  | pPush (a b : Byte)                    -- P.PUSH
  | pRd (a b : Byte)                      -- P.RD
  | pLen (a : Byte)                       -- P.LEN
  | pMul                                  -- P.MUL
  | pDiv                                  -- P.DIV
  | pGen (a : Byte)                       -- P.GEN
  | pSyn (a : Byte)                       -- P.SYN
  | pMov (a b : Byte)                     -- P.MOV
  | rsSplit                               -- RS.SPLIT
  | rsEcc (a : Byte)                      -- RS.ECC
  | rsEccAll                              -- RS.ECCALL
  | rsSyn (a : Byte)                      -- RS.SYN
  | rsIlv                                 -- RS.ILV
  | rsRdd (a b : Byte)                    -- RS.RDD
  | rsRde (a b : Byte)                    -- RS.RDE
  | mxAlloc                               -- MX.ALLOC
  | mxFind                                -- MX.FIND
  | mxSep                                 -- MX.SEP
  | mxAlign                               -- MX.ALIGN
  | mxTiming                              -- MX.TIMING
  | mxDark                                -- MX.DARK
  | mxFmt                                 -- MX.FMT
  | mxPlace                               -- MX.PLACE
  | mxFixed                               -- MX.FIXED
  | mxBuild                               -- MX.BUILD
  | gridRd (a b c : Byte)                 -- GRID.RD
  | mkBit (a b c : Byte)                  -- MK.BIT
  | mkApply (a : Byte)                    -- MK.APPLY
  | mkP1                                  -- MK.P1
  | mkP2                                  -- MK.P2
  | mkP3                                  -- MK.P3
  | mkP4                                  -- MK.P4
  | mkScore                               -- MK.SCORE
  | mkTryall                              -- MK.TRYALL
  | mkRds (a : Byte)                      -- MK.RDS
  deriving DecidableEq, Repr

end Sys2Proof
end

