-- ==== Sys2Proof/Decode.lean ====
section
/-! DEFINITION. The decoder of command words (spec R110 to R117), total on all 2^32 words, and the encoder written from
the same tables.  The decoder does not depend on the state (R117). -/

namespace Sys2Proof

/-- Why a word is no command (R115). -/
inductive DecodeError where
  /-- `op` is not one of the 54 opcodes: IllegalCommand with info 1. -/
  | unlistedOpcode
  /-- A must-be-zero bit of the format is 1: IllegalCommand with info 2. -/
  | mustBeZeroBit
  deriving DecidableEq, Repr

/-- `op = w[31:24]` (R110). -/
def fieldOp (w : Word) : Byte := w.extractLsb' 24 8

/-- `a = w[23:16]` (R110). -/
def fieldA (w : Word) : Byte := w.extractLsb' 16 8

/-- `b = w[15:8]` (R110). -/
def fieldB (w : Word) : Byte := w.extractLsb' 8 8

/-- `c = w[7:0]` (R110). -/
def fieldC (w : Word) : Byte := w.extractLsb' 0 8

/-- `imm16 = w[15:0]` (R110). -/
def fieldImm (w : Word) : Half := w.extractLsb' 0 16

/-- Format Z: `w[23:0]` must be zero (R111). -/
def asZ (w : Word) (i : Instr) : Except DecodeError Instr :=
  if fieldA w = 0 ∧ fieldB w = 0 ∧ fieldC w = 0 then .ok i else .error .mustBeZeroBit

/-- Format A: `w[15:0]` must be zero (R111). -/
def asA (w : Word) (f : Byte → Instr) : Except DecodeError Instr :=
  if fieldB w = 0 ∧ fieldC w = 0 then .ok (f (fieldA w)) else .error .mustBeZeroBit

/-- Format AB: `w[7:0]` must be zero (R111). -/
def asAB (w : Word) (f : Byte → Byte → Instr) : Except DecodeError Instr :=
  if fieldC w = 0 then .ok (f (fieldA w) (fieldB w)) else .error .mustBeZeroBit

/-- Format ABC: nothing must be zero (R111). -/
def asABC (w : Word) (f : Byte → Byte → Byte → Instr) : Except DecodeError Instr :=
  .ok (f (fieldA w) (fieldB w) (fieldC w))

/-- Format I: `w[23:16]` must be zero (R111). -/
def asI (w : Word) (f : Half → Instr) : Except DecodeError Instr :=
  if fieldA w = 0 then .ok (f (fieldImm w)) else .error .mustBeZeroBit

/-- Format AI: nothing must be zero (R111). -/
def asAI (w : Word) (f : Byte → Half → Instr) : Except DecodeError Instr :=
  .ok (f (fieldA w) (fieldImm w))

/-- The decoding procedure of R114 over the opcode map of R113. -/
def decode (w : Word) : Except DecodeError Instr :=
  match (fieldOp w).toNat with
  | 0x00 => asZ w .nop
  | 0x01 => asZ w .jobNew
  | 0x02 => asA w .srRd
  | 0x03 => asZ w .encodeJob
  | 0x04 => asABC w .tblRd
  | 0x10 => asA w .txtPush
  | 0x11 => asI w .txtRd
  | 0x12 => asZ w .vsel
  | 0x13 => asA w .vset
  | 0x14 => asZ w .bsb
  | 0x15 => asA w .dcwPush
  | 0x16 => asZ w .dcwSeal
  | 0x17 => asAI w .bitsRd
  | 0x18 => asAI w .bitsRdb
  | 0x20 => asA w .gfExp
  | 0x21 => asA w .gfLog
  | 0x22 => asAB w .gfMul
  | 0x23 => asAB w .gfAdd
  | 0x30 => asA w .pClr
  | 0x31 => asAB w .pPush
  | 0x32 => asAB w .pRd
  | 0x33 => asA w .pLen
  | 0x34 => asZ w .pMul
  | 0x35 => asZ w .pDiv
  | 0x36 => asA w .pGen
  | 0x37 => asA w .pSyn
  | 0x38 => asAB w .pMov
  | 0x40 => asZ w .rsSplit
  | 0x41 => asA w .rsEcc
  | 0x42 => asZ w .rsEccAll
  | 0x43 => asA w .rsSyn
  | 0x44 => asZ w .rsIlv
  | 0x45 => asAB w .rsRdd
  | 0x46 => asAB w .rsRde
  | 0x50 => asZ w .mxAlloc
  | 0x51 => asZ w .mxFind
  | 0x52 => asZ w .mxSep
  | 0x53 => asZ w .mxAlign
  | 0x54 => asZ w .mxTiming
  | 0x55 => asZ w .mxDark
  | 0x56 => asZ w .mxFmt
  | 0x57 => asZ w .mxPlace
  | 0x58 => asZ w .mxFixed
  | 0x59 => asZ w .mxBuild
  | 0x5A => asABC w .gridRd
  | 0x60 => asABC w .mkBit
  | 0x61 => asA w .mkApply
  | 0x62 => asZ w .mkP1
  | 0x63 => asZ w .mkP2
  | 0x64 => asZ w .mkP3
  | 0x65 => asZ w .mkP4
  | 0x66 => asZ w .mkScore
  | 0x67 => asZ w .mkTryall
  | 0x68 => asA w .mkRds
  | _ => .error .unlistedOpcode

/-- A word from its four byte fields, the opcode first (R110). -/
def assemble (op a b c : Byte) : Word := op ++ a ++ b ++ c

/-- A word from an opcode, the field `a` and `imm16` (R110). -/
def assembleImm (op a : Byte) (imm : Half) : Word := op ++ a ++ imm

/-- The word of a command (R111, R113): unused fields zero. -/
def encode : Instr → Word
  | .nop => assemble 0x00 0 0 0
  | .jobNew => assemble 0x01 0 0 0
  | .srRd a => assemble 0x02 a 0 0
  | .encodeJob => assemble 0x03 0 0 0
  | .tblRd a b c => assemble 0x04 a b c
  | .txtPush a => assemble 0x10 a 0 0
  | .txtRd i => assembleImm 0x11 0 i
  | .vsel => assemble 0x12 0 0 0
  | .vset a => assemble 0x13 a 0 0
  | .bsb => assemble 0x14 0 0 0
  | .dcwPush a => assemble 0x15 a 0 0
  | .dcwSeal => assemble 0x16 0 0 0
  | .bitsRd a i => assembleImm 0x17 a i
  | .bitsRdb a i => assembleImm 0x18 a i
  | .gfExp a => assemble 0x20 a 0 0
  | .gfLog a => assemble 0x21 a 0 0
  | .gfMul a b => assemble 0x22 a b 0
  | .gfAdd a b => assemble 0x23 a b 0
  | .pClr a => assemble 0x30 a 0 0
  | .pPush a b => assemble 0x31 a b 0
  | .pRd a b => assemble 0x32 a b 0
  | .pLen a => assemble 0x33 a 0 0
  | .pMul => assemble 0x34 0 0 0
  | .pDiv => assemble 0x35 0 0 0
  | .pGen a => assemble 0x36 a 0 0
  | .pSyn a => assemble 0x37 a 0 0
  | .pMov a b => assemble 0x38 a b 0
  | .rsSplit => assemble 0x40 0 0 0
  | .rsEcc a => assemble 0x41 a 0 0
  | .rsEccAll => assemble 0x42 0 0 0
  | .rsSyn a => assemble 0x43 a 0 0
  | .rsIlv => assemble 0x44 0 0 0
  | .rsRdd a b => assemble 0x45 a b 0
  | .rsRde a b => assemble 0x46 a b 0
  | .mxAlloc => assemble 0x50 0 0 0
  | .mxFind => assemble 0x51 0 0 0
  | .mxSep => assemble 0x52 0 0 0
  | .mxAlign => assemble 0x53 0 0 0
  | .mxTiming => assemble 0x54 0 0 0
  | .mxDark => assemble 0x55 0 0 0
  | .mxFmt => assemble 0x56 0 0 0
  | .mxPlace => assemble 0x57 0 0 0
  | .mxFixed => assemble 0x58 0 0 0
  | .mxBuild => assemble 0x59 0 0 0
  | .gridRd a b c => assemble 0x5A a b c
  | .mkBit a b c => assemble 0x60 a b c
  | .mkApply a => assemble 0x61 a 0 0
  | .mkP1 => assemble 0x62 0 0 0
  | .mkP2 => assemble 0x63 0 0 0
  | .mkP3 => assemble 0x64 0 0 0
  | .mkP4 => assemble 0x65 0 0 0
  | .mkScore => assemble 0x66 0 0 0
  | .mkTryall => assemble 0x67 0 0 0
  | .mkRds a => assemble 0x68 a 0 0

/-- The instruction the decoder reads from a word given as bits numbered as spec/opcode_table.json numbers them.  A
command is one 32-bit word (R110), so bit `k` of the row is bit `k` of the word; bits at and above `nbits` are 0. -/
def decodeTableWord (nbits w : Nat) : Option Instr :=
  (decode (BitVec.ofNat 32 (w % 2 ^ nbits))).toOption

end Sys2Proof
end

