-- ==== Sys2Proof/Machine/Bits.lean ====
section
/-! DEFINITION. Bit sequences and their order (spec R13, R81, R83): every multi-bit value enters a bit sequence most
significant bit first. -/

namespace Sys2Proof.Machine

/-- `bits_N(v)` (R13): the `N` bits of `v`, most significant first. -/
def bitsOf (width v : Nat) : List Bool :=
  (List.range width).map fun i => v.testBit (width - 1 - i)

/-- `bits_8` of a codeword (R81). -/
def bits8 (b : Byte) : List Bool := bitsOf 8 b.toNat

/-- `byte_of(b) = sum over i in 0..7 of b[i] * 2^(7-i)` (R13). -/
def byteOf (bs : List Bool) : Byte :=
  BitVec.ofNat 8 ((List.range 8).foldl (fun acc i => 2 * acc + (bs.getD i false).toNat) 0)

/-- The codeword at position `i` of a bit sequence: `byte_of(S[8*i .. 8*i+7])` (R81, R83). -/
def codewordAt (s : List Bool) (i : Nat) : Byte := byteOf ((s.drop (8 * i)).take 8)

/-- `zeros(n)` (R13) of bits. -/
def zeroBits (n : Nat) : List Bool := List.replicate n false

end Sys2Proof.Machine
end

