-- ==== Sys2Proof/Config.lean ====
section
/-! DEFINITION. The parameters of the implementation (spec R10, R11): sizes that no rule of the symbol format depends on,
and the two limits the source fixes.  The ROM, which the spec counts as state (R20), is in Machine/Rom.lean.  No
behaviour of this hardware has an undefined result, so there is no free value here. -/

namespace Sys2Proof.Config

/-- `MAX_TIER` (R10). -/
def maxTier : Nat := 40

/-- `MAX_LEN` (R10): the longest text the largest tier holds. -/
def maxLen : Nat := 1663

/-- `TEXT_DEPTH` (R11). -/
def textDepth : Nat := 2048

/-- `BITS_DEPTH` (R11). -/
def bitsDepth : Nat := 13328

/-- `FINAL_DEPTH` (R11). -/
def finalDepth : Nat := 29648

/-- `MAX_BLK` (R11). -/
def maxBlk : Nat := 68

/-- `MAX_DW` (R11). -/
def maxDw : Nat := 25

/-- `MAX_EC` (R11). -/
def maxEc : Nat := 30

/-- `POLY_DEPTH` (R11). -/
def polyDepth : Nat := 256

/-- `MAX_SIDE` (R10). -/
def maxSide : Nat := 177

end Sys2Proof.Config
end

