-- ==== Sys2Proof/Machine/Grid.lean ====
section
/-! DEFINITION. Square grids of bits addressed `X[x][y]`, `x` the column and `y` the row, (0,0) top left (spec R14, R85).
A grid is held as its columns, so that the cell `X[x][y]` is element `y` of element `x`. -/

namespace Sys2Proof.Machine

/-- A cell address (column, row) (R85). -/
abbrev Cell := Nat × Nat

/-- A grid of bits, 1 (true) a dark module or a reserved cell (R14, R33). -/
structure Grid where
  cols : List (List Bool)
  deriving DecidableEq, Repr

/-- The grid of a space that is not valid: no cell (log entry 5). -/
def Grid.empty : Grid := ⟨[]⟩

/-- An all-zero grid of side `n` (R252). -/
def Grid.blank (n : Nat) : Grid := ⟨List.replicate n (List.replicate n false)⟩

/-- `MemRead(X, (x,y), 1)` (R84).  A cell outside the grid reads 0; every command checks the bound first (log entry 5). -/
def Grid.get (g : Grid) (x y : Nat) : Bool := (g.cols.getD x []).getD y false

/-- `MemWrite(X, (x,y), 1, v)` (R84).  A write outside the grid is none (log entry 12). -/
def Grid.set (g : Grid) (x y : Nat) (v : Bool) : Grid := ⟨g.cols.modify x fun col => col.set y v⟩

/-- The grid of side `n` whose cell `(x, y)` is `f x y`. -/
def Grid.tabulate (n : Nat) (f : Nat → Nat → Bool) : Grid :=
  ⟨(List.range n).map fun x => (List.range n).map fun y => f x y⟩

/-- A list of writes, in order. -/
def Grid.setAll (g : Grid) (writes : List (Cell × Bool)) : Grid :=
  writes.foldl (fun acc w => acc.set w.1.1 w.1.2 w.2) g

/-- Row `y` of a grid of side `n`, left to right. -/
def Grid.row (g : Grid) (n y : Nat) : List Bool := (List.range n).map fun x => g.get x y

/-- Column `x` of a grid of side `n`, top to bottom. -/
def Grid.column (g : Grid) (n x : Nat) : List Bool := (List.range n).map fun y => g.get x y

/-- The canonical form of a grid of side `n`: `n` columns of `n` cells. -/
def Grid.wf (n : Nat) (g : Grid) : Bool := g.cols.length == n && g.cols.all (fun col => col.length == n)

end Sys2Proof.Machine
end

