-- ==== Sys2Proof/Machine/Rom.lean ====
section
/-! DEFINITION. The ROM (spec R34 to R40): the finite-field table, the per-tier table, the alignment coordinates and the
fixed bit patterns.  The spec counts it as state (R20) and lets a model take it as a parameter (R21, 93 Part A): the type
`Rom` is a field of State, and `Rom.standard` holds the values the spec prints. -/

namespace Sys2Proof.Machine

/-- A field element in exponent representation: an index of the finite-field table, kept apart from the integer
representation by a type of its own (R31). -/
structure Expo where
  idx : Byte
  deriving DecidableEq, Repr

/-- One row of the per-tier table of R38 with the alignment coordinates `AL[v]` of R39 (`NAL[v]` is their number). -/
structure TierRow where
  side : Nat
  cap : Nat
  td : Nat
  ec : Nat
  g1b : Nat
  g1w : Nat
  g2b : Nat
  g2w : Nat
  rem : Nat
  cntW : Nat
  al : List Nat
  deriving DecidableEq, Repr

/-- What a tier number outside the table reads as; no command reads one with the ROM of the spec (log entry 5). -/
def TierRow.absent : TierRow := ⟨0, 0, 0, 0, 0, 0, 0, 0, 0, 0, []⟩

/-- `NAL[v]` (R39). -/
def TierRow.nal (t : TierRow) : Nat := t.al.length

/-- `NBLK[v] = G1B[v] + G2B[v]` (R38). -/
def TierRow.blocks (t : TierRow) : Nat := t.g1b + t.g2b

/-- `TC[v] = TD[v] + EC[v]*NBLK[v]` (R38). -/
def TierRow.tc (t : TierRow) : Nat := t.td + t.ec * t.blocks

/-- The sanity check of R223: the group products sum to the total. -/
def TierRow.consistent (t : TierRow) : Bool := t.g1b * t.g1w + t.g2b * t.g2w == t.td

/-- The constant data of the core (R34). -/
structure Rom where
  gfExp : List Byte
  gfLog : List (Option Expo)
  tiers : List TierRow
  mode : BitVec 4
  fill : BitVec 16
  finder : List (List Bool)
  alignp : List (List Bool)
  p3a : List Bool
  p3b : List Bool
  deriving DecidableEq, Repr

/-- The row of tier `v`, 1 to 40 (R38). -/
def Rom.row (rom : Rom) (v : Nat) : TierRow :=
  match v with
  | 0 => .absent
  | k + 1 => rom.tiers.getD k .absent

/-- The table of R36 as printed, sixteen entries a row. -/
def gfExpRows : List (List Byte) :=
  [[1, 2, 4, 8, 16, 32, 64, 128, 29, 58, 116, 232, 205, 135, 19, 38],
   [76, 152, 45, 90, 180, 117, 234, 201, 143, 3, 6, 12, 24, 48, 96, 192],
   [157, 39, 78, 156, 37, 74, 148, 53, 106, 212, 181, 119, 238, 193, 159, 35],
   [70, 140, 5, 10, 20, 40, 80, 160, 93, 186, 105, 210, 185, 111, 222, 161],
   [95, 190, 97, 194, 153, 47, 94, 188, 101, 202, 137, 15, 30, 60, 120, 240],
   [253, 231, 211, 187, 107, 214, 177, 127, 254, 225, 223, 163, 91, 182, 113, 226],
   [217, 175, 67, 134, 17, 34, 68, 136, 13, 26, 52, 104, 208, 189, 103, 206],
   [129, 31, 62, 124, 248, 237, 199, 147, 59, 118, 236, 197, 151, 51, 102, 204],
   [133, 23, 46, 92, 184, 109, 218, 169, 79, 158, 33, 66, 132, 21, 42, 84],
   [168, 77, 154, 41, 82, 164, 85, 170, 73, 146, 57, 114, 228, 213, 183, 115],
   [230, 209, 191, 99, 198, 145, 63, 126, 252, 229, 215, 179, 123, 246, 241, 255],
   [227, 219, 171, 75, 150, 49, 98, 196, 149, 55, 110, 220, 165, 87, 174, 65],
   [130, 25, 50, 100, 200, 141, 7, 14, 28, 56, 112, 224, 221, 167, 83, 166],
   [81, 162, 89, 178, 121, 242, 249, 239, 195, 155, 43, 86, 172, 69, 138, 9],
   [18, 36, 72, 144, 61, 122, 244, 245, 247, 243, 251, 235, 203, 139, 11, 22],
   [44, 88, 176, 125, 250, 233, 207, 131, 27, 54, 108, 216, 173, 71, 142, 1]]

/-- The table of R37 as printed, sixteen entries a row; 256 stands where R37 prints `-`, the absent entry. -/
def gfLogRows : List (List Nat) :=
  [[256, 0, 1, 25, 2, 50, 26, 198, 3, 223, 51, 238, 27, 104, 199, 75],
   [4, 100, 224, 14, 52, 141, 239, 129, 28, 193, 105, 248, 200, 8, 76, 113],
   [5, 138, 101, 47, 225, 36, 15, 33, 53, 147, 142, 218, 240, 18, 130, 69],
   [29, 181, 194, 125, 106, 39, 249, 185, 201, 154, 9, 120, 77, 228, 114, 166],
   [6, 191, 139, 98, 102, 221, 48, 253, 226, 152, 37, 179, 16, 145, 34, 136],
   [54, 208, 148, 206, 143, 150, 219, 189, 241, 210, 19, 92, 131, 56, 70, 64],
   [30, 66, 182, 163, 195, 72, 126, 110, 107, 58, 40, 84, 250, 133, 186, 61],
   [202, 94, 155, 159, 10, 21, 121, 43, 78, 212, 229, 172, 115, 243, 167, 87],
   [7, 112, 192, 247, 140, 128, 99, 13, 103, 74, 222, 237, 49, 197, 254, 24],
   [227, 165, 153, 119, 38, 184, 180, 124, 17, 68, 146, 217, 35, 32, 137, 46],
   [55, 63, 209, 91, 149, 188, 207, 205, 144, 135, 151, 178, 220, 252, 190, 97],
   [242, 86, 211, 171, 20, 42, 93, 158, 132, 60, 57, 83, 71, 109, 65, 162],
   [31, 45, 67, 216, 183, 123, 164, 118, 196, 23, 73, 236, 127, 12, 111, 246],
   [108, 161, 59, 82, 41, 157, 85, 170, 251, 96, 134, 177, 187, 204, 62, 90],
   [203, 89, 95, 176, 156, 169, 160, 81, 11, 245, 22, 235, 122, 117, 44, 215],
   [79, 174, 213, 233, 230, 231, 173, 232, 116, 214, 244, 234, 168, 80, 88, 175]]

/-- An entry of the printed logarithm table as an exponent; 256 is the absent entry. -/
def logEntry (n : Nat) : Option Expo := if n < 256 then some ⟨BitVec.ofNat 8 n⟩ else none

/-- Tiers 1 to 10 of R38 and R39. -/
def tierRows1 : List TierRow :=
  [⟨21, 11, 13, 13, 1, 13, 0, 0, 0, 8, []⟩,
   ⟨25, 20, 22, 22, 1, 22, 0, 0, 7, 8, [6, 18]⟩,
   ⟨29, 32, 34, 18, 2, 17, 0, 0, 7, 8, [6, 22]⟩,
   ⟨33, 46, 48, 26, 2, 24, 0, 0, 7, 8, [6, 26]⟩,
   ⟨37, 60, 62, 18, 2, 15, 2, 16, 7, 8, [6, 30]⟩,
   ⟨41, 74, 76, 24, 4, 19, 0, 0, 7, 8, [6, 34]⟩,
   ⟨45, 86, 88, 18, 2, 14, 4, 15, 0, 8, [6, 22, 38]⟩,
   ⟨49, 108, 110, 22, 4, 18, 2, 19, 0, 8, [6, 24, 42]⟩,
   ⟨53, 130, 132, 20, 4, 16, 4, 17, 0, 8, [6, 26, 46]⟩,
   ⟨57, 151, 154, 24, 6, 19, 2, 20, 0, 16, [6, 28, 50]⟩]

/-- Tiers 11 to 20 of R38 and R39. -/
def tierRows2 : List TierRow :=
  [⟨61, 177, 180, 28, 4, 22, 4, 23, 0, 16, [6, 30, 54]⟩,
   ⟨65, 203, 206, 26, 4, 20, 6, 21, 0, 16, [6, 32, 58]⟩,
   ⟨69, 241, 244, 24, 8, 20, 4, 21, 0, 16, [6, 34, 62]⟩,
   ⟨73, 258, 261, 20, 11, 16, 5, 17, 3, 16, [6, 26, 46, 66]⟩,
   ⟨77, 292, 295, 30, 5, 24, 7, 25, 3, 16, [6, 26, 48, 70]⟩,
   ⟨81, 322, 325, 24, 15, 19, 2, 20, 3, 16, [6, 26, 50, 74]⟩,
   ⟨85, 364, 367, 28, 1, 22, 15, 23, 3, 16, [6, 30, 54, 78]⟩,
   ⟨89, 394, 397, 28, 17, 22, 1, 23, 3, 16, [6, 30, 56, 82]⟩,
   ⟨93, 442, 445, 26, 17, 21, 4, 22, 3, 16, [6, 30, 58, 86]⟩,
   ⟨97, 482, 485, 30, 15, 24, 5, 25, 3, 16, [6, 34, 62, 90]⟩]

/-- Tiers 21 to 30 of R38 and R39. -/
def tierRows3 : List TierRow :=
  [⟨101, 509, 512, 28, 17, 22, 6, 23, 4, 16, [6, 28, 50, 72, 94]⟩,
   ⟨105, 565, 568, 30, 7, 24, 16, 25, 4, 16, [6, 26, 50, 74, 98]⟩,
   ⟨109, 611, 614, 30, 11, 24, 14, 25, 4, 16, [6, 30, 54, 78, 102]⟩,
   ⟨113, 661, 664, 30, 11, 24, 16, 25, 4, 16, [6, 28, 54, 80, 106]⟩,
   ⟨117, 715, 718, 30, 7, 24, 22, 25, 4, 16, [6, 32, 58, 84, 110]⟩,
   ⟨121, 751, 754, 28, 28, 22, 6, 23, 4, 16, [6, 30, 58, 86, 114]⟩,
   ⟨125, 805, 808, 30, 8, 23, 26, 24, 4, 16, [6, 34, 62, 90, 118]⟩,
   ⟨129, 868, 871, 30, 4, 24, 31, 25, 3, 16, [6, 26, 50, 74, 98, 122]⟩,
   ⟨133, 908, 911, 30, 1, 23, 37, 24, 3, 16, [6, 30, 54, 78, 102, 126]⟩,
   ⟨137, 982, 985, 30, 15, 24, 25, 25, 3, 16, [6, 26, 52, 78, 104, 130]⟩]

/-- Tiers 31 to 40 of R38 and R39. -/
def tierRows4 : List TierRow :=
  [⟨141, 1030, 1033, 30, 42, 24, 1, 25, 3, 16, [6, 30, 56, 82, 108, 134]⟩,
   ⟨145, 1112, 1115, 30, 10, 24, 35, 25, 3, 16, [6, 34, 60, 86, 112, 138]⟩,
   ⟨149, 1168, 1171, 30, 29, 24, 19, 25, 3, 16, [6, 30, 58, 86, 114, 142]⟩,
   ⟨153, 1228, 1231, 30, 44, 24, 7, 25, 3, 16, [6, 34, 62, 90, 118, 146]⟩,
   ⟨157, 1283, 1286, 30, 39, 24, 14, 25, 0, 16, [6, 30, 54, 78, 102, 126, 150]⟩,
   ⟨161, 1351, 1354, 30, 46, 24, 10, 25, 0, 16, [6, 24, 50, 76, 102, 128, 154]⟩,
   ⟨165, 1423, 1426, 30, 49, 24, 10, 25, 0, 16, [6, 28, 54, 80, 106, 132, 158]⟩,
   ⟨169, 1499, 1502, 30, 48, 24, 14, 25, 0, 16, [6, 32, 58, 84, 110, 136, 162]⟩,
   ⟨173, 1579, 1582, 30, 43, 24, 22, 25, 0, 16, [6, 26, 54, 82, 110, 138, 166]⟩,
   ⟨177, 1663, 1666, 30, 34, 24, 34, 25, 0, 16, [6, 30, 58, 86, 114, 142, 170]⟩]

/-- `FINDER[dx][dy]` (R40): 1 unless `max(|dx-3|, |dy-3|) = 2`. -/
def finderBit (dx dy : Nat) : Bool := max (max dx 3 - min dx 3) (max dy 3 - min dy 3) != 2

/-- `ALIGNP[dx-2][dy-2]` (R40), indexed from 0: 1 unless `max(|dx-2|, |dy-2|) = 1`. -/
def alignBit (dx dy : Nat) : Bool := max (max dx 2 - min dx 2) (max dy 2 - min dy 2) != 1

/-- The square table of a bit function. -/
def bitTable (n : Nat) (f : Nat → Nat → Bool) : List (List Bool) :=
  (List.range n).map fun x => (List.range n).map fun y => f x y

/-- The ROM of the spec (R36 to R40). -/
def Rom.standard : Rom where
  gfExp := gfExpRows.flatten
  gfLog := gfLogRows.flatten.map logEntry
  tiers := tierRows1 ++ (tierRows2 ++ (tierRows3 ++ tierRows4))
  mode := 0b0100
  fill := 0xEC11
  finder := bitTable 7 finderBit
  alignp := bitTable 5 alignBit
  p3a := [true, false, true, true, true, false, true, false, false, false, false]
  p3b := [false, false, false, false, true, false, true, true, true, false, true]

/-- The next field element in the recurrence of R36 and R391: double, and reduce by 0x11D on overflow. -/
def nextPower (v : Nat) : Nat := if 2 * v < 256 then 2 * v else (2 * v) ^^^ 0x11D

/-- The first `k` entries of the loop of R391 from the value `v`. -/
def powersFrom : Nat → Nat → List Nat
  | 0, _ => []
  | k + 1, v => v :: powersFrom k (nextPower v)

/-- `GFEXP` as the reset sequence builds it (R391): 255 powers, then `GFEXP[255] = 1`. -/
def builtExp : List Byte := ((powersFrom 255 1) ++ [1]).map (BitVec.ofNat 8 ·)

/-- `GFLOG` as the reset sequence builds it (R391): the step at which a value first appears. -/
def builtLog : List (Option Expo) :=
  (List.range 256).map fun v =>
    if v ∈ powersFrom 255 1 then some ⟨BitVec.ofNat 8 ((powersFrom 255 1).idxOf v)⟩ else none

end Sys2Proof.Machine
end

