-- ==== Sys2Proof/Machine/State.lean ====
section
/-! DEFINITION. The state of the core (spec R20 and the rules named at each field) and its value after reset (R390).
A buffer is the list of its valid elements, so its length register is that list's length and a mark that says whether an
element is valid is whether the element is there (log entry 6).  Values the spec says never occur (R23, R24, R350) are
excluded by the types (log entry 8). -/

namespace Sys2Proof.Machine

/-- The values of the data sequencer `DS` (R23). -/
inductive DataStage where
  | text | tiered | padded | split | eccDone | final
  deriving DecidableEq, Repr

/-- The number of a `DS` value (R23). -/
def DataStage.code : DataStage → Nat
  | .text => 0 | .tiered => 1 | .padded => 2 | .split => 3 | .eccDone => 4 | .final => 5

/-- The values of the matrix sequencer `MS` (R24). -/
inductive MatrixStage where
  | none | alloc | find | sep | align | timing | dark | fixed | placed | masked
  deriving DecidableEq, Repr

/-- The number of an `MS` value (R24). -/
def MatrixStage.code : MatrixStage → Nat
  | .none => 0 | .alloc => 1 | .find => 2 | .sep => 3 | .align => 4
  | .timing => 5 | .dark => 6 | .fixed => 7 | .placed => 8 | .masked => 9

/-- The fault codes 1 to 7 (R350). -/
inductive FaultCode where
  | capacityExceeded | internalTableError | fieldLookupFailure | illegalCommand
  | sequenceError | rangeError | lengthError
  deriving DecidableEq, Repr

/-- The number of a fault code (R350). -/
def FaultCode.code : FaultCode → Nat
  | .capacityExceeded => 1 | .internalTableError => 2 | .fieldLookupFailure => 3 | .illegalCommand => 4
  | .sequenceError => 5 | .rangeError => 6 | .lengthError => 7

/-- The polynomial register file `x[0..3]` (R30): each register is the sequence of its valid coefficients, highest power
first, so `PLEN[i]` is a length. -/
structure PolyFile where
  pa : List Byte
  pb : List Byte
  pq : List Byte
  pr : List Byte
  deriving DecidableEq, Repr

/-- A response (R42, R43). -/
structure Response where
  ok : Bool
  val : Word
  deriving DecidableEq, Repr

/-- What can arrive at the core's inputs (R19, R42): a command word, the reset input between commands (R390), or the reset
input while the given command word is executing (R392). -/
inductive Input where
  | command (w : Word)
  | reset
  | resetDuring (w : Word)
  deriving DecidableEq, Repr

/-- A mask index 0 to 7 (R292). -/
abbrev MaskIdx := Fin 8

/-- The state of the core (R20) and the model's own view of its two channels (R42). -/
structure State where
  /-- The ROM (R34). -/
  rom : Rom
  /-- `DS` (R23). -/
  ds : DataStage
  /-- `MS` (R24). -/
  ms : MatrixStage
  /-- `CC` (R25). -/
  cc : Word
  /-- `GFV` (R27). -/
  gfv : Bool
  /-- `FLT` (R27). -/
  flt : Bool
  /-- `TV` (R27). -/
  tv : Bool
  /-- `ERR` (R26, R350): none is code 0. -/
  err : Option FaultCode
  /-- `ERRINFO` (R26). -/
  errInfo : Word
  /-- `ERRCMD` (R26). -/
  errCmd : Word
  /-- `TIER` (R26): 0 is none chosen. -/
  tier : Nat
  /-- `SIZE` (R26). -/
  size : Nat
  /-- `NBLK` (R26). -/
  nblk : Nat
  /-- `EVCNT` (R26). -/
  evcnt : Nat
  /-- `TMASK` (R26). -/
  tmask : MaskIdx
  /-- `BEST` (R26). -/
  best : MaskIdx
  /-- `BESTSCORE` (R26). -/
  bestScore : Word
  /-- `NSTAMP` (R26). -/
  nstamp : Nat
  /-- `x[0..3]` (R30). -/
  poly : PolyFile
  /-- TEXT below `LEN` (R32). -/
  text : List Byte
  /-- BITS below `BLEN` (R32). -/
  bits : List Bool
  /-- D (R32): block `b` is element `b`, `DLEN[b]` its length (R41). -/
  d : List (List Byte)
  /-- E (R32): block `b` is element `b`, present exactly when `EV[b] = 1` (R41). -/
  e : List (Option (List Byte))
  /-- FINAL below `FLEN` (R32). -/
  final : List Bool
  /-- G (R32). -/
  g : Grid
  /-- R (R32, R33). -/
  r : Grid
  /-- T (R32), valid while `TV = 1`. -/
  t : Grid
  /-- O (R32), valid at `MS = 9`. -/
  o : Grid
  /-- SCORE (R32): element `k` is present exactly when `SV[k] = 1` (R41). -/
  score : Vector (Option Word) 8
  /-- The word on the command channel (R42): the command being executed, or the last one executed (log entry 2). -/
  cmd : Word
  /-- What is presented to the core next, the first first (log entry 1). -/
  input : List Input
  /-- The response channel (R42): the last response given, if any (log entry 3). -/
  resp : Option Response
  deriving DecidableEq, Repr

/-- Reasons the machine stops with a fault: none.  Every fault of this hardware is precise, is reported in a response and
leaves the core running (R355, R356), so it is a next state; no behaviour of the spec stops the core.  Safe: nothing is
stopped. -/
inductive Fault where
  deriving DecidableEq, Repr

/-- Reasons the model has no meaning for a command. -/
inductive Refusal where
  /-- Raised by `exec` alone, for a command the model gives no meaning yet.  No arm raises it: every command of the opcode
  table has its meaning.  Safe. -/
  | notModelled (mnemonic : String)
  deriving DecidableEq, Repr

/-- The machine right after reset (R390, R391): every register, length, sequencer and mark 0 but `GFV`, the ROM at the
constants of R36 to R40, nothing presented and no response given. -/
def State.reset : State where
  rom := .standard
  ds := .text
  ms := .none
  cc := 0
  gfv := true
  flt := false
  tv := false
  err := none
  errInfo := 0
  errCmd := 0
  tier := 0
  size := 0
  nblk := 0
  evcnt := 0
  tmask := 0
  best := 0
  bestScore := 0
  nstamp := 0
  poly := ⟨[], [], [], []⟩
  text := []
  bits := []
  d := []
  e := []
  final := []
  g := .empty
  r := .empty
  t := .empty
  o := .empty
  score := Vector.replicate 8 none
  cmd := 0
  input := []
  resp := none

end Sys2Proof.Machine
end

