-- ==== Sys2Proof/Machine/Ops.lean ====
section
/-! DEFINITION. The operations every command shares: the length and validity views of the buffers (spec R26, R41), reads
and writes of the spaces (R84), accepting a command word (R25, R42), responding (R43), fault entry (R356), the dead job
(R357, R359), a fresh job (R331) and reset (R390, R392). -/

namespace Sys2Proof.Machine

/-! ### Length and validity views -/

/-- `LEN` (R26). -/
def State.len (s : State) : Nat := s.text.length

/-- `BLEN` (R26). -/
def State.blen (s : State) : Nat := s.bits.length

/-- `FLEN` (R26). -/
def State.flen (s : State) : Nat := s.final.length

/-- The data codewords `D[b]` (R32); a block that is not there has none. -/
def State.block (s : State) (b : Nat) : List Byte := s.d.getD b []

/-- `DLEN[b]` (R41). -/
def State.dlen (s : State) (b : Nat) : Nat := (s.block b).length

/-- The redundancy codewords `E[b]`, if computed (R32). -/
def State.redundancy (s : State) (b : Nat) : Option (List Byte) := s.e.getD b none

/-- `EV[b]` (R41). -/
def State.ev (s : State) (b : Nat) : Bool := (s.redundancy b).isSome

/-- `SV[k]` (R27, R41). -/
def State.sv (s : State) (k : MaskIdx) : Bool := s.score[k].isSome

/-- `DONE`: equals `MS = 9` (R27). -/
def State.done (s : State) : Bool := s.ms == .masked

/-- The ROM row of the job's tier (R220). -/
def State.row (s : State) : TierRow := s.rom.row s.tier

/-- `8*TD[TIER]`, the tier's capacity in bits (R145). -/
def State.bitCapacity (s : State) : Nat := 8 * s.row.td

/-- `SEQINFO = DS + 16*MS`, the info of every SequenceError (R351). -/
def State.seqInfo (s : State) : Nat := s.ds.code + 16 * s.ms.code

/-! ### Reads of the spaces (R84).  The commands check the bound first; outside it a read gives 0 (log entry 5). -/

/-- `MemRead(TEXT, i, 1)[0]`. -/
def State.readText (s : State) (i : Nat) : Byte := s.text.getD i 0

/-- `MemRead(D, (b,i), 1)[0]`. -/
def State.readData (s : State) (b i : Nat) : Byte := (s.block b).getD i 0

/-- `MemRead(E, (b,j), 1)[0]`. -/
def State.readRedundancy (s : State) (b j : Nat) : Byte := ((s.redundancy b).getD []).getD j 0

/-- `MemRead(S, i, 1)[0]` of BITS or FINAL. -/
def readBit (seq : List Bool) (i : Nat) : Bool := seq.getD i false

/-! ### Writes -/

/-- `E[b] <- ws` with `EV[b] <- 1` (R224). -/
def State.setRedundancy (s : State) (b : Nat) (ws : List Byte) : State := { s with e := s.e.set b (some ws) }

/-- `SCORE[k] <- v` with `SV[k] <- 1` (R304). -/
def State.setScore (s : State) (k : MaskIdx) (v : Nat) : State := { s with score := s.score.set k (some (zext32 v)) }

/-- "stamp `v` at `(x, y)`" for a list of cells in order: `G[x][y] <- v; R[x][y] <- 1` (R251). -/
def State.stamp (s : State) (cells : List (Cell × Bool)) : State :=
  { s with g := s.g.setAll cells, r := s.r.setAll (cells.map fun c => (c.1, true)) }

/-- "reserve `(x, y)`" for a list of cells in order: `R[x][y] <- 1`, G unchanged (R251). -/
def State.reserve (s : State) (cells : List Cell) : State :=
  { s with r := s.r.setAll (cells.map fun c => (c, true)) }

/-! ### Results of a command's operation -/

/-- How the operation of a command ends (R15): it completes with the value of its response, or it raises a fault with an
info value.  The state of `raised` is what the constituents of a macro command that completed before have left (R361);
for every other command it is the state the command started in (R353). -/
inductive Result where
  | done (s : State) (val : Nat)
  | raised (s : State) (code : FaultCode) (info : Nat)
  deriving DecidableEq, Repr

/-- `raise SequenceError(SEQINFO)` (R351). -/
def seqError (s : State) : Result := .raised s .sequenceError s.seqInfo

/-- `raise RangeError(info)` (R351). -/
def rangeError (info : Nat) (s : State) : Result := .raised s .rangeError info

/-- One constituent of a macro command after another (R361): a fault ends the macro. -/
def Result.andThen (r : Result) (next : State → Result) : Result :=
  match r with
  | .done s _ => next s
  | .raised s c i => .raised s c i

/-- The macro's own response in the place of its last constituent's. -/
def Result.respond (r : Result) (val : State → Nat) : Result :=
  match r with
  | .done s _ => .done s (val s)
  | .raised s c i => .raised s c i

/-! ### The host's channels -/

/-- Accepting a command word: it leaves the input, stands on the command channel, and `CC` counts it modulo 2^32, whether
or not it faults (R25). -/
def State.accept (s : State) (w : Word) (rest : List Input) : State :=
  { s with cc := s.cc + 1, cmd := w, input := rest }

/-- Giving a response (R43). -/
def State.respondWith (s : State) (r : Response) : State := { s with resp := some r }

/-- The response of a command that completes: `(ok = 1, val = zext_32(v))` (R43). -/
def State.complete (s : State) (val : Nat) : State := s.respondWith ⟨true, zext32 val⟩

/-- The response of a command that faults: `(ok = 0, val = code)` (R43, R350). -/
def State.refuse (s : State) (c : FaultCode) : State := s.respondWith ⟨false, zext32 c.code⟩

/-! ### Taking a fault, and leaving it -/

/-- The record of the first fault of a job (R356): `ERR`, `ERRINFO`, `ERRCMD` and `FLT`. -/
def State.recordFault (s : State) (c : FaultCode) (info : Nat) : State :=
  { s with flt := true, err := some c, errInfo := zext32 info, errCmd := s.cmd }

/-- Fault entry, `raise F(info)` (R356): the record is written when `FLT = 0` only, for the first fault wins (R359), and
the response is the code.  Control goes nowhere. -/
def State.faultEntry (s : State) (c : FaultCode) (info : Nat) : State :=
  (if s.flt then s else s.recordFault c info).refuse c

/-- The answer to a word a dead job does not execute (R357): SequenceError, nothing recorded. -/
def State.deadAnswer (s : State) : State := s.refuse .sequenceError

/-- A fresh job (R331): every piece of state but the ROM and `CC` takes its reset value.  It is the only way out of a dead
job but reset (R358).  The two channels are not job state. -/
def State.newJob (s : State) : State :=
  { State.reset with rom := s.rom, cc := s.cc, cmd := s.cmd, input := s.input, resp := s.resp }

/-- Reset (R390, R391), also in the middle of a command (R392): the state after reset, no response; what the host
presents next stands. -/
def State.resetInput (_s : State) (rest : List Input) : State := { State.reset with input := rest }

/-! ### Running a command's operation -/

/-- The state a result leaves: the response given, or the fault entered. -/
def Result.settle : Result → State
  | .done s v => s.complete v
  | .raised s c i => s.faultEntry c i

/-- A command that a dead job does not execute (R357): all but NOP, JOB.NEW and SR.RD. -/
def runLive (op : State → Result) (s : State) : Host.Outcome State Fault Refusal :=
  if s.flt then .next s.deadAnswer else .next (op s).settle

/-- A command that a dead job executes too (R357): NOP, JOB.NEW, SR.RD. -/
def runAlways (op : State → Result) (s : State) : Host.Outcome State Fault Refusal :=
  .next (op s).settle

/-- The opcodes the dead-job check lets pass (R353 check 1, R357). -/
def exemptOpcode (w : Word) : Bool := fieldOp w == 0x00 || fieldOp w == 0x01 || fieldOp w == 0x02

/-- The info of IllegalCommand (R115, R351). -/
def DecodeError.info : DecodeError → Nat
  | .unlistedOpcode => 1
  | .mustBeZeroBit => 2

/-- An illegal word (R115, R353 checks 1 to 3): the dead-job check comes first, then IllegalCommand. -/
def State.illegalWord (s : State) (w : Word) (err : DecodeError) : State :=
  if s.flt && !exemptOpcode w then s.deadAnswer else s.faultEntry .illegalCommand (DecodeError.info err)

end Sys2Proof.Machine
end

