-- ==== Sys2Proof/Machine/Operands.lean ====
section
/-! DEFINITION. Every operand form of the command set (spec R112, R113): register numbers, mask indices, buffer and grid
selectors, tiers and table fields.  An operand outside its range is none here; the command raises RangeError (R116). -/

namespace Sys2Proof.Machine

/-- A polynomial register (R30). -/
inductive PolyReg where
  | pa | pb | pq | pr
  deriving DecidableEq, Repr

/-- A register operand: 0 to 3 (R30). -/
def regOperand (a : Byte) : Option PolyReg :=
  match a.toNat with
  | 0 => some .pa
  | 1 => some .pb
  | 2 => some .pq
  | 3 => some .pr
  | _ => none

/-- `x[i]` (R15, R30). -/
def PolyFile.read (p : PolyFile) : PolyReg → List Byte
  | .pa => p.pa
  | .pb => p.pb
  | .pq => p.pq
  | .pr => p.pr

/-- `x[i] <- c` (R15, R30). -/
def PolyFile.write (p : PolyFile) (r : PolyReg) (c : List Byte) : PolyFile :=
  match r with
  | .pa => { p with pa := c }
  | .pb => { p with pb := c }
  | .pq => { p with pq := c }
  | .pr => { p with pr := c }

/-- `x[i]` of the state. -/
def State.readPoly (s : State) (r : PolyReg) : List Byte := s.poly.read r

/-- `x[i] <- c` of the state. -/
def State.writePoly (s : State) (r : PolyReg) (c : List Byte) : State := { s with poly := s.poly.write r c }

/-- A mask operand: 0 to 7 (R292). -/
def maskOperand (a : Byte) : Option MaskIdx := if h : a.toNat < 8 then some ⟨a.toNat, h⟩ else none

/-- The bit sequence a selector names: 0 BITS, 1 FINAL (R149). -/
def bitSelector (s : State) (a : Byte) : Option (List Bool) :=
  match a.toNat with
  | 0 => some s.bits
  | 1 => some s.final
  | _ => none

/-- A grid selector: 0 G, 1 R, 2 T, 3 O (R264). -/
inductive GridSel where
  | g | r | t | o
  deriving DecidableEq, Repr

/-- A grid operand (R264). -/
def gridOperand (a : Byte) : Option GridSel :=
  match a.toNat with
  | 0 => some .g
  | 1 => some .r
  | 2 => some .t
  | 3 => some .o
  | _ => none

/-- Whether the selected grid is valid (R32, R264). -/
def State.gridValid (s : State) : GridSel → Bool
  | .g => 1 ≤ s.ms.code
  | .r => 1 ≤ s.ms.code
  | .t => s.tv
  | .o => s.ms == .masked

/-- The selected grid (R264). -/
def State.grid (s : State) : GridSel → Grid
  | .g => s.g
  | .r => s.r
  | .t => s.t
  | .o => s.o

/-- A tier operand: 1 to 40 (R144, R334). -/
def tierInRange (a : Byte) : Bool := 1 ≤ a.toNat && a.toNat ≤ Config.maxTier

/-- A field of the per-tier ROM, `TBL.RD` operand `b` (R334). -/
inductive TblField where
  | cap | td | ec | g1b | g1w | g2b | g2w | rem | nal | al | side | cntW
  deriving DecidableEq, Repr

/-- The field operand of `TBL.RD`: 0 to 11 (R334). -/
def tblFieldOperand (b : Byte) : Option TblField :=
  match b.toNat with
  | 0 => some .cap
  | 1 => some .td
  | 2 => some .ec
  | 3 => some .g1b
  | 4 => some .g1w
  | 5 => some .g2b
  | 6 => some .g2w
  | 7 => some .rem
  | 8 => some .nal
  | 9 => some .al
  | 10 => some .side
  | 11 => some .cntW
  | _ => none

/-- Whether the index operand of `TBL.RD` is allowed for the field: below `NAL` for `AL`, 0 for the others (R334). -/
def TblField.indexOk (f : TblField) (row : TierRow) (c : Nat) : Bool :=
  match f with
  | .al => c < row.nal
  | _ => c == 0

/-- The entry a field and index select (R334). -/
def TblField.entry (f : TblField) (row : TierRow) (c : Nat) : Nat :=
  match f with
  | .cap => row.cap
  | .td => row.td
  | .ec => row.ec
  | .g1b => row.g1b
  | .g1w => row.g1w
  | .g2b => row.g2b
  | .g2w => row.g2w
  | .rem => row.rem
  | .nal => row.nal
  | .al => row.al.getD c 0
  | .side => row.side
  | .cntW => row.cntW

end Sys2Proof.Machine
end

