-- ==== Sys2Proof/Machine/Field.lean ====
section
/-! DEFINITION. The finite-field unit GF(256) (spec R170 to R179): the field functions over the ROM's table and the
commands GF.EXP, GF.LOG, GF.MUL, GF.ADD. -/

namespace Sys2Proof.Machine

/-! ### The field -/

/-- `gf_exp(e)` (R172): `GFEXP[e]`. -/
def gfExp (rom : Rom) (e : Expo) : Byte := rom.gfExp.getD e.idx.toNat 0

/-- `gf_log(v)` (R173): `GFLOG[v]`; there is none for 0. -/
def gfLog (rom : Rom) (v : Byte) : Option Expo := rom.gfLog.getD v.toNat none

/-- A non-negative exponent reduced modulo 255, the order of `alpha` (R172, R174). -/
def expoOf (n : Nat) : Expo := ⟨BitVec.ofNat 8 (n % 255)⟩

/-- `alpha^n` for any exponent (R172): `GFEXP[n mod 255]`. -/
def gfPow (rom : Rom) (n : Nat) : Byte := gfExp rom (expoOf n)

/-- `gf_add(a, b) = a xor b` (R171); subtraction is the same. -/
def gfAdd (a b : Byte) : Byte := a ^^^ b

/-- `gf_mul(a, b)` (R174): 0 if an operand is 0, else exponents added modulo 255.  An operand the table has no exponent
for counts as exponent 0, which no non-zero operand meets with the ROM of the spec (log entry 5). -/
def gfMul (rom : Rom) (a b : Byte) : Byte :=
  if a = 0 ∨ b = 0 then 0
  else gfPow rom ((((gfLog rom a).map (·.idx.toNat)).getD 0) + (((gfLog rom b).map (·.idx.toNat)).getD 0))

/-- `gf_inv(a) = GFEXP[(255 - GFLOG[a]) mod 255]` (R175), for a non-zero `a`. -/
def gfInv (rom : Rom) (a : Byte) : Byte := gfPow rom (255 - ((gfLog rom a).map (·.idx.toNat)).getD 0)

/-! ### Commands -/

/-- GF.EXP (R176). -/
def opGfExp (a : Byte) (s : State) : Result := .done s (gfExp s.rom ⟨a⟩).toNat

/-- GF.LOG (R177). -/
def opGfLog (a : Byte) (s : State) : Result :=
  if a = 0 then .raised s .fieldLookupFailure 0
  else
    match gfLog s.rom a with
    | none => .raised s .fieldLookupFailure 0
    | some e => .done s e.idx.toNat

/-- GF.MUL (R178). -/
def opGfMul (a b : Byte) (s : State) : Result := .done s (gfMul s.rom a b).toNat

/-- GF.ADD (R179). -/
def opGfAdd (a b : Byte) (s : State) : Result := .done s (gfAdd a b).toNat

/-- GF.EXP a (R176). -/
def execGfExp (a : Byte) (s : State) : Host.Outcome State Fault Refusal := runLive (opGfExp a) s

/-- GF.LOG a (R177). -/
def execGfLog (a : Byte) (s : State) : Host.Outcome State Fault Refusal := runLive (opGfLog a) s

/-- GF.MUL a, b (R178). -/
def execGfMul (a b : Byte) (s : State) : Host.Outcome State Fault Refusal := runLive (opGfMul a b) s

/-- GF.ADD a, b (R179). -/
def execGfAdd (a b : Byte) (s : State) : Host.Outcome State Fault Refusal := runLive (opGfAdd a b) s

end Sys2Proof.Machine
end

