-- ==== Sys2Proof/Machine/FrontEnd.lean ====
section
/-! DEFINITION. The front end (spec R140 to R150): text buffer, version selector, byte stream builder, direct codeword
entry, bit buffer reads. -/

namespace Sys2Proof.Machine

/-! ### Version selector and byte stream builder -/

/-- The first tier, counting from `v`, whose capacity reaches `len`; `MAX_TIER` when the rows end first (log entry 7). -/
def firstTier (len : Nat) : List TierRow → Nat → Nat
  | [], _ => Config.maxTier
  | row :: rows, v => if len ≤ row.cap then v else firstTier len rows (v + 1)

/-- `select_tier(L)` (R142): the smallest `v` with `CAP[v] >= L`. -/
def selectTier (rom : Rom) (len : Nat) : Nat := firstTier len rom.tiers 1

/-- The two bytes of the filler pattern (R40): the high byte for even `k`, the low byte for odd `k` (R145). -/
def fillerByte (rom : Rom) (k : Nat) : Byte :=
  if k % 2 = 0 then rom.fill.extractLsb' 8 8 else rom.fill.extractLsb' 0 8

/-- The filler loop of R145 from a sequence of `n` bits: one filler byte while the length is below `cap`, cut after its
first byte where only one fits. -/
def filler (rom : Rom) (n cap : Nat) : List Bool :=
  (List.range ((cap - n + 7) / 8)).flatMap fun k => bits8 (fillerByte rom k)

/-- The header and data of R145: mode marker, count field, text bytes. -/
def streamHead (rom : Rom) (text : List Byte) (row : TierRow) : List Bool :=
  bitsOf 4 rom.mode.toNat ++ bitsOf row.cntW text.length ++ text.flatMap bits8

/-- The terminator and the padding to the byte boundary of R145. -/
def terminated (head : List Bool) (cap : Nat) : List Bool :=
  let s := head ++ zeroBits (min 4 (cap - head.length))
  s ++ zeroBits ((8 - s.length % 8) % 8)

/-- `build_stream(text, v)` (R145); none where it fails. -/
def buildStream (rom : Rom) (text : List Byte) (row : TierRow) : Option (List Bool) :=
  let cap := 8 * row.td
  let head := streamHead rom text row
  if head.length > cap then none
  else
    let s := terminated head cap
    if s.length > cap then none else some (s ++ filler rom s.length cap)

/-! ### Operations -/

/-- TXT.PUSH (R140). -/
def opTxtPush (a : Byte) (s : State) : Result :=
  if s.ds ≠ .text then seqError s
  else if ¬ s.len < Config.textDepth then rangeError s.len s
  else .done { s with text := s.text ++ [a] } 0

/-- TXT.RD (R141). -/
def opTxtRd (imm16 : Half) (s : State) : Result :=
  if ¬ imm16.toNat < s.len then rangeError imm16.toNat s
  else .done s (s.readText imm16.toNat).toNat

/-- VSEL (R143). -/
def opVsel (s : State) : Result :=
  if s.ds ≠ .text then seqError s
  else if s.len > Config.maxLen then .raised s .capacityExceeded s.len
  else .done { s with tier := selectTier s.rom s.len, ds := .tiered } (selectTier s.rom s.len)

/-- VSET (R144). -/
def opVset (a : Byte) (s : State) : Result :=
  if s.ds ≠ .text then seqError s
  else if ¬ tierInRange a then rangeError a.toNat s
  else .done { s with tier := a.toNat, ds := .tiered } a.toNat

/-- BSB (R146). -/
def opBsb (s : State) : Result :=
  if ¬ (s.ds = .tiered ∧ s.blen = 0) then seqError s
  else
    match buildStream s.rom s.text s.row with
    | none => .raised s .internalTableError 2
    | some bits => .done { s with bits := bits, ds := .padded } bits.length

/-- DCW.PUSH (R147). -/
def opDcwPush (a : Byte) (s : State) : Result :=
  if s.ds ≠ .tiered then seqError s
  else if ¬ s.blen + 8 ≤ s.bitCapacity then rangeError s.blen s
  else .done { s with bits := s.bits ++ bits8 a } 0

/-- DCW.SEAL (R148). -/
def opDcwSeal (s : State) : Result :=
  if s.ds ≠ .tiered then seqError s
  else if s.blen ≠ s.bitCapacity then .raised s .lengthError s.blen
  else .done { s with ds := .padded } s.blen

/-- BITS.RD (R149). -/
def opBitsRd (a : Byte) (imm16 : Half) (s : State) : Result :=
  match bitSelector s a with
  | none => rangeError a.toNat s
  | some seq =>
    if ¬ imm16.toNat < seq.length then rangeError imm16.toNat s
    else .done s (readBit seq imm16.toNat).toNat

/-- BITS.RDB (R150). -/
def opBitsRdb (a : Byte) (imm16 : Half) (s : State) : Result :=
  match bitSelector s a with
  | none => rangeError a.toNat s
  | some seq =>
    if ¬ 8 * imm16.toNat + 8 ≤ seq.length then rangeError imm16.toNat s
    else .done s (codewordAt seq imm16.toNat).toNat

/-! ### Commands -/

/-- TXT.PUSH a (R140). -/
def execTxtPush (a : Byte) (s : State) : Host.Outcome State Fault Refusal := runLive (opTxtPush a) s

/-- TXT.RD imm16 (R141). -/
def execTxtRd (imm16 : Half) (s : State) : Host.Outcome State Fault Refusal := runLive (opTxtRd imm16) s

/-- VSEL (R143). -/
def execVsel (s : State) : Host.Outcome State Fault Refusal := runLive opVsel s

/-- VSET a (R144). -/
def execVset (a : Byte) (s : State) : Host.Outcome State Fault Refusal := runLive (opVset a) s

/-- BSB (R146). -/
def execBsb (s : State) : Host.Outcome State Fault Refusal := runLive opBsb s

/-- DCW.PUSH a (R147). -/
def execDcwPush (a : Byte) (s : State) : Host.Outcome State Fault Refusal := runLive (opDcwPush a) s

/-- DCW.SEAL (R148). -/
def execDcwSeal (s : State) : Host.Outcome State Fault Refusal := runLive opDcwSeal s

/-- BITS.RD a, imm16 (R149). -/
def execBitsRd (a : Byte) (imm16 : Half) (s : State) : Host.Outcome State Fault Refusal := runLive (opBitsRd a imm16) s

/-- BITS.RDB a, imm16 (R150). -/
def execBitsRdb (a : Byte) (imm16 : Half) (s : State) : Host.Outcome State Fault Refusal := runLive (opBitsRdb a imm16) s

end Sys2Proof.Machine
end

