-- ==== Sys2Proof/Machine/Mask.lean ====
section
/-! DEFINITION. The mask evaluator (spec R290 to R307): the eight masks, the four penalties, try-all. -/

namespace Sys2Proof.Machine

/-! ### Masks -/

/-- `mask_fn(k, x, y)` (R292), `x` the column and `y` the row. -/
def maskFn (k : MaskIdx) (x y : Nat) : Bool :=
  match k with
  | 0 => (x + y) % 2 == 0
  | 1 => y % 2 == 0
  | 2 => x % 3 == 0
  | 3 => (x + y) % 3 == 0
  | 4 => (y / 2 + x / 3) % 2 == 0
  | 5 => (x * y) % 2 + (x * y) % 3 == 0
  | 6 => ((x * y) % 2 + (x * y) % 3) % 2 == 0
  | 7 => ((x + y) % 2 + (x * y) % 3) % 2 == 0

/-- The trial grid of mask `k` (R294): the built grid with every unreserved cell XORed with the mask. -/
def trialGrid (k : MaskIdx) (n : Nat) (g r : Grid) : Grid :=
  .tabulate n fun x y => g.get x y ^^ (!r.get x y && maskFn k x y)

/-! ### Penalties -/

/-- The rows, then the columns, of a grid of side `n`. -/
def lines (n : Nat) (t : Grid) : List (List Bool) :=
  ((List.range n).map fun y => t.row n y) ++ ((List.range n).map fun x => t.column n x)

/-- `run_pen(L)` (R296). -/
def runPen (len : Nat) : Nat := if len ≥ 5 then len - 2 else 0

/-- The penalty of the runs of a line, the current run having value `b` and length `len` (R296). -/
def runsFrom (b : Bool) (len : Nat) : List Bool → Nat
  | [] => runPen len
  | c :: rest => if c = b then runsFrom b (len + 1) rest else runPen len + runsFrom c 1 rest

/-- The sum of `run_pen` over the runs of one line (R296). -/
def linePen : List Bool → Nat
  | [] => 0
  | b :: rest => runsFrom b 1 rest

/-- `pen1(T)` (R296): every row and every column on its own. -/
def pen1 (n : Nat) (t : Grid) : Nat := ((lines n t).map linePen).sum

/-- The 2x2 window at `(x, y)` has one colour (R297). -/
def oneColour (t : Grid) (x y : Nat) : Bool :=
  t.get x y == t.get (x + 1) y && t.get x y == t.get x (y + 1) && t.get x y == t.get (x + 1) (y + 1)

/-- `pen2(T)` (R297): every position of the window counts. -/
def pen2 (n : Nat) (t : Grid) : Nat :=
  3 * ((List.range (n - 1)).map fun x => (List.range (n - 1)).countP (oneColour t x)).sum

/-- The number of windows of a line, wholly inside it, that match either sequence (R298). -/
def matchCount (rom : Rom) : List Bool → Nat
  | [] => 0
  | b :: rest =>
    (if rom.p3a.isPrefixOf (b :: rest) || rom.p3b.isPrefixOf (b :: rest) then 1 else 0) + matchCount rom rest

/-- `pen3(T)` (R298). -/
def pen3 (rom : Rom) (n : Nat) (t : Grid) : Nat := 40 * ((lines n t).map (matchCount rom)).sum

/-- The number of dark cells of a grid of side `n` (R299). -/
def darkCount (n : Nat) (t : Grid) : Nat := ((List.range n).map fun x => (List.range n).countP (t.get x)).sum

/-- `|a - 50|` (R12, R299). -/
def distance50 (a : Nat) : Nat := max a 50 - min a 50

/-- `pen4` of `d` dark cells among `cells` (R299). -/
def balancePen (d cells : Nat) : Nat :=
  let prev := 5 * ((20 * d) / cells)
  2 * min (distance50 prev) (distance50 (prev + 5))

/-- `pen4(T)` (R299). -/
def pen4 (n : Nat) (t : Grid) : Nat := balancePen (darkCount n t) (n * n)

/-- `score(T)` (R295). -/
def gridScore (rom : Rom) (n : Nat) (t : Grid) : Nat := pen1 n t + pen2 n t + pen3 rom n t + pen4 n t

/-! ### Operations -/

/-- The effect of R294: the trial grid, its mask and its mark. -/
def State.applyMask (s : State) (k : MaskIdx) : State :=
  { s with t := trialGrid k s.size s.g s.r, tmask := k, tv := true }

/-- The score of the current trial grid. -/
def State.trialScore (s : State) : Nat := gridScore s.rom s.size s.t

/-- MK.BIT (R293). -/
def opMkBit (a b c : Byte) (s : State) : Result :=
  match maskOperand a with
  | none => rangeError a.toNat s
  | some k => .done s (maskFn k b.toNat c.toNat).toNat

/-- MK.APPLY (R294). -/
def opMkApply (a : Byte) (s : State) : Result :=
  if ¬ 8 ≤ s.ms.code then seqError s
  else
    match maskOperand a with
    | none => rangeError a.toNat s
    | some k => .done (s.applyMask k) 0

/-- A penalty of the trial grid, or SequenceError without one (R300 to R303). -/
def penaltyOf (pen : Nat → Grid → Nat) (s : State) : Result :=
  if ¬ s.tv then seqError s else .done s (pen s.size s.t)

/-- MK.SCORE (R304). -/
def opMkScore (s : State) : Result :=
  if ¬ s.tv then seqError s else .done (s.setScore s.tmask s.trialScore) s.trialScore

/-- One mask of R305: its trial grid and score, kept if the score is strictly lower than the best so far. -/
def tryMask (acc : State × Option (MaskIdx × Nat)) (k : MaskIdx) : State × Option (MaskIdx × Nat) :=
  let s1 := acc.1.applyMask k
  let sc := s1.trialScore
  let s2 := s1.setScore k sc
  match acc.2 with
  | none => ({ s2 with o := s2.t }, some (k, sc))
  | some (kb, sb) => if sc < sb then ({ s2 with o := s2.t }, some (k, sc)) else (s2, some (kb, sb))

/-- MK.TRYALL (R305). -/
def opMkTryall (s : State) : Result :=
  if ¬ 8 ≤ s.ms.code then seqError s
  else
    let acc := (List.finRange 8).foldl tryMask (s, none)
    let kept := acc.2.getD (0, 0)
    .done { acc.1 with best := kept.1, bestScore := zext32 kept.2, ms := .masked } kept.1.val

/-- MK.RDS (R306). -/
def opMkRds (a : Byte) (s : State) : Result :=
  match maskOperand a with
  | none => rangeError a.toNat s
  | some k =>
    match s.score[k] with
    | none => seqError s
    | some v => .done s v.toNat

/-! ### Commands -/

/-- MK.BIT a, b, c (R293). -/
def execMkBit (a b c : Byte) (s : State) : Host.Outcome State Fault Refusal := runLive (opMkBit a b c) s

/-- MK.APPLY a (R294). -/
def execMkApply (a : Byte) (s : State) : Host.Outcome State Fault Refusal := runLive (opMkApply a) s

/-- MK.P1 (R300). -/
def execMkP1 (s : State) : Host.Outcome State Fault Refusal := runLive (penaltyOf pen1) s

/-- MK.P2 (R301). -/
def execMkP2 (s : State) : Host.Outcome State Fault Refusal := runLive (penaltyOf pen2) s

/-- MK.P3 (R302). -/
def execMkP3 (s : State) : Host.Outcome State Fault Refusal := runLive (penaltyOf (pen3 s.rom)) s

/-- MK.P4 (R303). -/
def execMkP4 (s : State) : Host.Outcome State Fault Refusal := runLive (penaltyOf pen4) s

/-- MK.SCORE (R304). -/
def execMkScore (s : State) : Host.Outcome State Fault Refusal := runLive opMkScore s

/-- MK.TRYALL (R305). -/
def execMkTryall (s : State) : Host.Outcome State Fault Refusal := runLive opMkTryall s

/-- MK.RDS a (R306). -/
def execMkRds (a : Byte) (s : State) : Host.Outcome State Fault Refusal := runLive (opMkRds a) s

end Sys2Proof.Machine
end

