-- ==== Sys2Proof/Machine/Matrix.lean ====
section
/-! DEFINITION. The matrix builder (spec R250 to R268): the seven steps, the macro commands and the cell read.  A step is
the list of cells its rule names, stamped or reserved in order (R251). -/

namespace Sys2Proof.Machine

/-! ### The cells of the steps -/

/-- The bit of a printed pattern. -/
def patternBit (table : List (List Bool)) (dx dy : Nat) : Bool := (table.getD dx []).getD dy false

/-- A square pattern of side `k` with its first cell at `(ox, oy)`. -/
def patternCells (k : Nat) (table : List (List Bool)) (ox oy : Nat) : List (Cell × Bool) :=
  (List.range k).flatMap fun dx => (List.range k).map fun dy => ((ox + dx, oy + dy), patternBit table dx dy)

/-- The origins of the three locator patterns (R253). -/
def locatorOrigins (n : Nat) : List Cell := [(0, 0), (n - 7, 0), (0, n - 7)]

/-- Step 1: the three locator patterns (R253). -/
def finderCells (rom : Rom) (n : Nat) : List (Cell × Bool) :=
  (locatorOrigins n).flatMap fun org => patternCells 7 rom.finder org.1 org.2

/-- Step 2: the separators (R254). -/
def separatorCells (n : Nat) : List Cell :=
  (List.range 8).flatMap fun k =>
    [(7, k), (k, 7), (n - 8, k), (n - 8 + k, 7), (k, n - 8), (7, n - 8 + k)]

/-- The candidate centres of step 3 in visiting order (R255). -/
def alignCandidates (al : List Nat) : List Cell := al.flatMap fun cx => al.map fun cy => (cx, cy)

/-- The 25 cells of an alignment pattern centred at `(cx, cy)`, with their bits (R255, R256). -/
def alignCells (rom : Rom) (c : Cell) : List (Cell × Bool) := patternCells 5 rom.alignp (c.1 - 2) (c.2 - 2)

/-- The skip test of R255: a cell of the footprint is already reserved. -/
def footprintReserved (rom : Rom) (r : Grid) (c : Cell) : Bool := (alignCells rom c).any fun w => r.get w.1.1 w.1.2

/-- Step 4: the timing strips (R257). -/
def timingCells (n : Nat) : List (Cell × Bool) :=
  (List.range (n - 16)).flatMap fun k =>
    [((k + 8, 6), (k + 8) % 2 == 0), ((6, k + 8), (k + 8) % 2 == 0)]

/-- Step 5: the dark module (R258). -/
def darkModule (tier : Nat) : Cell := (8, 4 * tier + 9)

/-- Step 6, the format areas (R259). -/
def formatCells (n : Nat) : List Cell :=
  ((List.range 9).flatMap fun k => [(k, 8), (8, k)]) ++
  ((List.range 8).flatMap fun k => [(n - 8 + k, 8), (8, n - 8 + k)])

/-- Step 6, the version areas of tiers 7 and up (R259). -/
def versionCells (tier n : Nat) : List Cell :=
  if tier ≥ 7 then
    (List.range 6).flatMap fun p => (List.range 3).flatMap fun q => [(p, n - 11 + q), (n - 11 + q, p)]
  else []

/-! ### The zig-zag order -/

/-- The sweeps of R260 from column `right` on: the right column of each pair and the direction.  `fuel` bounds the number
of sweeps; `n` is enough for a grid of side `n`. -/
def sweeps : Nat → Nat → Bool → List (Nat × Bool)
  | 0, _, _ => []
  | fuel + 1, right, up =>
    if 1 ≤ right then
      let c := if right = 6 then 5 else right
      (c, up) :: sweeps fuel (c - 2) (!up)
    else []

/-- The unreserved cells one sweep offers, in order (R260). -/
def sweepCells (n : Nat) (r : Grid) (c : Nat) (up : Bool) : List Cell :=
  (List.range n).flatMap fun t =>
    let y := if up then n - 1 - t else t
    [(c, y), (c - 1, y)].filter fun cell => !r.get cell.1 cell.2

/-- `zigzag(n, R)` (R260). -/
def zigzag (n : Nat) (r : Grid) : List Cell :=
  (sweeps n (n - 1) true).flatMap fun w => sweepCells n r w.1 w.2

/-! ### Operations -/

/-- MX.ALLOC (R252). -/
def opMxAlloc (s : State) : Result :=
  if ¬ (1 ≤ s.ds.code ∧ s.ms = .none) then seqError s
  else
    .done { s with g := .blank s.row.side, r := .blank s.row.side, size := s.row.side, ms := .alloc } s.row.side

/-- MX.FIND (R253). -/
def opMxFind (s : State) : Result :=
  if s.ms ≠ .alloc then seqError s
  else .done { s.stamp (finderCells s.rom s.size) with ms := .find } 0

/-- MX.SEP (R254). -/
def opMxSep (s : State) : Result :=
  if s.ms ≠ .find then seqError s
  else .done { s.reserve (separatorCells s.size) with ms := .sep } 0

/-- One candidate of step 3 (R256): skipped, or stamped and counted in `NSTAMP`. -/
def State.alignOne (s : State) (c : Cell) : State :=
  if footprintReserved s.rom s.r c then s
  else { s.stamp (alignCells s.rom c) with nstamp := s.nstamp + 1 }

/-- MX.ALIGN (R256). -/
def opMxAlign (s : State) : Result :=
  if s.ms ≠ .sep then seqError s
  else
    let s1 := (alignCandidates s.row.al).foldl State.alignOne { s with nstamp := 0 }
    .done { s1 with ms := .align } s1.nstamp

/-- MX.TIMING (R257). -/
def opMxTiming (s : State) : Result :=
  if s.ms ≠ .align then seqError s
  else .done { s.stamp (timingCells s.size) with ms := .timing } 0

/-- MX.DARK (R258). -/
def opMxDark (s : State) : Result :=
  if s.ms ≠ .timing then seqError s
  else .done { s.stamp [(darkModule s.tier, true)] with ms := .dark } 0

/-- MX.FMT (R259). -/
def opMxFmt (s : State) : Result :=
  if s.ms ≠ .dark then seqError s
  else .done { s.reserve (formatCells s.size ++ versionCells s.tier s.size) with ms := .fixed } 0

/-- MX.PLACE (R261). -/
def opMxPlace (s : State) : Result :=
  if ¬ (s.ms = .fixed ∧ s.ds = .final) then seqError s
  else if (zigzag s.size s.r).length ≠ s.flen then .raised s .lengthError s.flen
  else .done { s with g := s.g.setAll ((zigzag s.size s.r).zip s.final), ms := .placed } s.flen

/-- MX.FIXED (R262): steps 0 to 6. -/
def opMxFixed (s : State) : Result :=
  if ¬ (1 ≤ s.ds.code ∧ s.ms = .none) then seqError s
  else
    ((((((opMxAlloc s).andThen opMxFind).andThen opMxSep).andThen opMxAlign).andThen opMxTiming).andThen opMxDark
      |>.andThen opMxFmt).respond (·.size)

/-- MX.BUILD (R263): MX.FIXED, then MX.PLACE. -/
def opMxBuild (s : State) : Result :=
  if ¬ (s.ms = .none ∧ s.ds = .final) then seqError s
  else ((opMxFixed s).andThen opMxPlace).respond (·.flen)

/-- GRID.RD (R264). -/
def opGridRd (a b c : Byte) (s : State) : Result :=
  match gridOperand a with
  | none => rangeError a.toNat s
  | some sel =>
    if ¬ s.gridValid sel then seqError s
    else if ¬ b.toNat < s.size then rangeError b.toNat s
    else if ¬ c.toNat < s.size then rangeError c.toNat s
    else .done s ((s.grid sel).get b.toNat c.toNat).toNat

/-! ### Commands -/

/-- MX.ALLOC (R252). -/
def execMxAlloc (s : State) : Host.Outcome State Fault Refusal := runLive opMxAlloc s

/-- MX.FIND (R253). -/
def execMxFind (s : State) : Host.Outcome State Fault Refusal := runLive opMxFind s

/-- MX.SEP (R254). -/
def execMxSep (s : State) : Host.Outcome State Fault Refusal := runLive opMxSep s

/-- MX.ALIGN (R256). -/
def execMxAlign (s : State) : Host.Outcome State Fault Refusal := runLive opMxAlign s

/-- MX.TIMING (R257). -/
def execMxTiming (s : State) : Host.Outcome State Fault Refusal := runLive opMxTiming s

/-- MX.DARK (R258). -/
def execMxDark (s : State) : Host.Outcome State Fault Refusal := runLive opMxDark s

/-- MX.FMT (R259). -/
def execMxFmt (s : State) : Host.Outcome State Fault Refusal := runLive opMxFmt s

/-- MX.PLACE (R261). -/
def execMxPlace (s : State) : Host.Outcome State Fault Refusal := runLive opMxPlace s

/-- MX.FIXED (R262). -/
def execMxFixed (s : State) : Host.Outcome State Fault Refusal := runLive opMxFixed s

/-- MX.BUILD (R263). -/
def execMxBuild (s : State) : Host.Outcome State Fault Refusal := runLive opMxBuild s

/-- GRID.RD a, b, c (R264). -/
def execGridRd (a b c : Byte) (s : State) : Host.Outcome State Fault Refusal := runLive (opGridRd a b c) s

end Sys2Proof.Machine
end

