-- ==== Sys2Proof/Machine/Poly.lean ====
section
/-! DEFINITION. The polynomial unit over GF(256) (spec R190 to R205).  A polynomial is its coefficient sequence, highest
power first (R190). -/

namespace Sys2Proof.Machine

/-- A polynomial (R190): coefficients in integer representation, highest power first. -/
abbrev Poly := List Byte

/-- `zeros(n)` (R13) of coefficients. -/
def zeroCoeffs (n : Nat) : Poly := List.replicate n 0

/-! ### Functions -/

/-- `r[k] = xor over all i, j with i + j = k of gf_mul(p[i], q[j])` (R192), the pairs taken by `j`. -/
def mulCoeff (rom : Rom) (p q : Poly) (k : Nat) : Byte :=
  (List.range q.length).foldl
    (fun acc j => if j ≤ k ∧ k - j < p.length then gfAdd acc (gfMul rom (p.getD (k - j) 0) (q.getD j 0)) else acc) 0

/-- `poly_mul(p, q)` (R192). -/
def polyMul (rom : Rom) (p q : Poly) : Poly :=
  if p.length = 0 ∨ q.length = 0 then []
  else (List.range (p.length + q.length - 1)).map (mulCoeff rom p q)

/-- `w[j] xor p[j]` for the positions of `p`, the rest of `w` unchanged: the inner loop of R193. -/
def xorInto : Poly → Poly → Poly
  | w, [] => w
  | [], _ :: _ => []
  | a :: w, b :: p => gfAdd a b :: xorInto w p

/-- The loop of R193 over what is left of the working copy from `w[s]` on: the quotient coefficients of the steps to come
and the remainder.  `tail` is the divisor without its lead coefficient: the step makes `w[s]` 0 and drops it. -/
def divSteps (rom : Rom) (tail : Poly) (inv : Byte) : Nat → Poly → Poly × Poly
  | 0, w => ([], w)
  | _ + 1, [] => ([], [])
  | k + 1, lead :: w =>
    let c := gfMul rom lead inv
    let w' := if c ≠ 0 then xorInto w (tail.map (gfMul rom c)) else w
    let r := divSteps rom tail inv k w'
    (c :: r.1, r.2)

/-- `poly_divmod(p, d)` (R193), for a divisor with a non-zero lead coefficient. -/
def polyDivmod (rom : Rom) (p d : Poly) : Poly × Poly :=
  if p.length < d.length then ([], zeroCoeffs (d.length - 1 - p.length) ++ p)
  else divSteps rom d.tail (gfInv rom (d.headD 0)) (p.length - d.length + 1) p

/-- `gen_poly(n)` (R194): the product of the factors `(t - alpha^i)`, `i` from 0 to `n-1`. -/
def genPoly (rom : Rom) (n : Nat) : Poly :=
  (List.range n).foldl (fun g i => polyMul rom g [1, gfPow rom i]) [1]

/-- `poly_eval(p, v)` (R195), by Horner's rule. -/
def polyEval (rom : Rom) (p : Poly) (v : Byte) : Byte :=
  p.foldl (fun acc c => gfAdd (gfMul rom acc v) c) 0

/-- `syndromes(p, n)` (R196): `S[i]` is the value at `alpha^i`. -/
def syndromes (rom : Rom) (p : Poly) (n : Nat) : List Byte :=
  (List.range n).map fun i => polyEval rom p (gfPow rom i)

/-- 1 if every element is 0, else 0 (R204, R226). -/
def allZero (l : List Byte) : Nat := if l.all (· == 0) then 1 else 0

/-! ### Operations -/

/-- P.CLR (R197). -/
def opPClr (a : Byte) (s : State) : Result :=
  match regOperand a with
  | none => rangeError a.toNat s
  | some r => .done (s.writePoly r []) 0

/-- P.PUSH (R198). -/
def opPPush (a b : Byte) (s : State) : Result :=
  match regOperand a with
  | none => rangeError a.toNat s
  | some r =>
    if ¬ (s.readPoly r).length < Config.polyDepth then rangeError Config.polyDepth s
    else .done (s.writePoly r (s.readPoly r ++ [b])) ((s.readPoly r).length + 1)

/-- P.RD (R199). -/
def opPRd (a b : Byte) (s : State) : Result :=
  match regOperand a with
  | none => rangeError a.toNat s
  | some r =>
    if ¬ b.toNat < (s.readPoly r).length then rangeError b.toNat s
    else .done s ((s.readPoly r).getD b.toNat 0).toNat

/-- P.LEN (R200). -/
def opPLen (a : Byte) (s : State) : Result :=
  match regOperand a with
  | none => rangeError a.toNat s
  | some r => .done s (s.readPoly r).length

/-- P.MOV (R205). -/
def opPMov (a b : Byte) (s : State) : Result :=
  match regOperand a with
  | none => rangeError a.toNat s
  | some dst =>
    match regOperand b with
    | none => rangeError b.toNat s
    | some src => .done (s.writePoly dst (s.readPoly src)) (s.readPoly src).length

/-- P.MUL (R201). -/
def opPMul (s : State) : Result :=
  let na := (s.readPoly .pa).length
  let nb := (s.readPoly .pb).length
  if na ≠ 0 ∧ nb ≠ 0 ∧ ¬ na + nb - 1 ≤ Config.polyDepth then rangeError (na + nb - 1) s
  else
    let p := polyMul s.rom (s.readPoly .pa) (s.readPoly .pb)
    .done (s.writePoly .pr p) p.length

/-- P.DIV (R202). -/
def opPDiv (s : State) : Result :=
  if ¬ 1 ≤ (s.readPoly .pb).length then rangeError 0 s
  else if (s.readPoly .pb).headD 0 = 0 then .raised s .fieldLookupFailure 0
  else
    let qr := polyDivmod s.rom (s.readPoly .pa) (s.readPoly .pb)
    .done ((s.writePoly .pq qr.1).writePoly .pr qr.2) qr.1.length

/-- P.GEN (R203). -/
def opPGen (a : Byte) (s : State) : Result :=
  .done (s.writePoly .pr (genPoly s.rom a.toNat)) (a.toNat + 1)

/-- P.SYN (R204). -/
def opPSyn (a : Byte) (s : State) : Result :=
  let syn := syndromes s.rom (s.readPoly .pa) a.toNat
  .done (s.writePoly .pr syn) (allZero syn)

/-! ### Commands -/

/-- P.CLR a (R197). -/
def execPClr (a : Byte) (s : State) : Host.Outcome State Fault Refusal := runLive (opPClr a) s

/-- P.PUSH a, b (R198). -/
def execPPush (a b : Byte) (s : State) : Host.Outcome State Fault Refusal := runLive (opPPush a b) s

/-- P.RD a, b (R199). -/
def execPRd (a b : Byte) (s : State) : Host.Outcome State Fault Refusal := runLive (opPRd a b) s

/-- P.LEN a (R200). -/
def execPLen (a : Byte) (s : State) : Host.Outcome State Fault Refusal := runLive (opPLen a) s

/-- P.MUL (R201). -/
def execPMul (s : State) : Host.Outcome State Fault Refusal := runLive opPMul s

/-- P.DIV (R202). -/
def execPDiv (s : State) : Host.Outcome State Fault Refusal := runLive opPDiv s

/-- P.GEN a (R203). -/
def execPGen (a : Byte) (s : State) : Host.Outcome State Fault Refusal := runLive (opPGen a) s

/-- P.SYN a (R204). -/
def execPSyn (a : Byte) (s : State) : Host.Outcome State Fault Refusal := runLive (opPSyn a) s

/-- P.MOV a, b (R205). -/
def execPMov (a b : Byte) (s : State) : Host.Outcome State Fault Refusal := runLive (opPMov a b) s

end Sys2Proof.Machine
end

