-- ==== Sys2Proof/Machine/ReedSolomon.lean ====
section
/-! DEFINITION. The Reed-Solomon unit (spec R220 to R229): split into blocks, redundancy, syndromes, interleave. -/

namespace Sys2Proof.Machine

/-! ### Blocks and redundancy -/

/-- The data codewords `cw[i]` of BITS, `i` from 0 to `TD[TIER]-1` (R220). -/
def dataCodewords (bits : List Bool) (td : Nat) : List Byte := (List.range td).map (codewordAt bits)

/-- `DLEN[b]` (R221). -/
def blockLen (row : TierRow) (b : Nat) : Nat := if b < row.g1b then row.g1w else row.g2w

/-- `OFF[b]` (R221). -/
def blockOffset (row : TierRow) (b : Nat) : Nat :=
  if b < row.g1b then b * row.g1w else row.g1b * row.g1w + (b - row.g1b) * row.g2w

/-- The data codewords of every block (R221). -/
def splitBlocks (row : TierRow) (cw : List Byte) : List (List Byte) :=
  (List.range row.blocks).map fun b => (List.range (blockLen row b)).map fun i => cw.getD (blockOffset row b + i) 0

/-- `rs_ecc(data, n)` (R222). -/
def rsEcc (rom : Rom) (data : List Byte) (n : Nat) : List Byte :=
  (polyDivmod rom (data ++ zeroCoeffs n) (genPoly rom n)).2

/-- The interleaved codewords of R227: data codewords by position and block, then redundancy codewords. -/
def interleaved (s : State) : List Byte :=
  ((List.range (max s.row.g1w s.row.g2w)).flatMap fun i =>
    (List.range s.nblk).flatMap fun b => if i < s.dlen b then [s.readData b i] else []) ++
  ((List.range s.row.ec).flatMap fun j => (List.range s.nblk).map fun b => s.readRedundancy b j)

/-- The final bit sequence of R227: the interleaved codewords, then the remainder bits. -/
def finalBits (s : State) : List Bool := (interleaved s).flatMap bits8 ++ zeroBits s.row.rem

/-! ### Operations -/

/-- RS.SPLIT (R223). -/
def opRsSplit (s : State) : Result :=
  if s.ds ≠ .padded then seqError s
  else if ¬ s.row.consistent then .raised s .internalTableError 1
  else
    .done { s with
      nblk := s.row.blocks
      d := splitBlocks s.row (dataCodewords s.bits s.row.td)
      e := List.replicate s.row.blocks none
      evcnt := 0
      ds := .split } s.row.blocks

/-- Whether the stage is one in which redundancy is computed: `DS = 3` or `DS = 4` (R224, R225). -/
def State.eccStage (s : State) : Bool := s.ds == .split || s.ds == .eccDone

/-- The effect of R224 on block `b`: its redundancy, its mark, the count of marks, and the stage once all are done. -/
def State.eccBlock (s : State) (b : Nat) : State :=
  let s1 := s.setRedundancy b (rsEcc s.rom (s.block b) s.row.ec)
  let s2 := if s.ev b then s1 else { s1 with evcnt := s.evcnt + 1 }
  if s2.evcnt = s2.nblk then { s2 with ds := .eccDone } else s2

/-- RS.ECC on block number `b` (R224). -/
def opRsEccBlock (b : Nat) (s : State) : Result :=
  if ¬ s.eccStage then seqError s
  else if ¬ b < s.nblk then rangeError b s
  else .done (s.eccBlock b) (s.eccBlock b).evcnt

/-- RS.ECC (R224). -/
def opRsEcc (a : Byte) (s : State) : Result := opRsEccBlock a.toNat s

/-- RS.ECCALL (R225): the operation of RS.ECC on each block in turn. -/
def opRsEccAll (s : State) : Result :=
  if ¬ s.eccStage then seqError s
  else
    Result.respond ((List.range s.nblk).foldl (fun r b => Result.andThen r (opRsEccBlock b)) (Result.done s 0)) (·.nblk)

/-- RS.SYN (R226). -/
def opRsSyn (a : Byte) (s : State) : Result :=
  if ¬ 3 ≤ s.ds.code then seqError s
  else if ¬ a.toNat < s.nblk then rangeError a.toNat s
  else
    match s.redundancy a.toNat with
    | none => seqError s
    | some ecc =>
      let syn := syndromes s.rom (s.block a.toNat ++ ecc) s.row.ec
      .done (s.writePoly .pr syn) (allZero syn)

/-- RS.ILV (R227). -/
def opRsIlv (s : State) : Result :=
  if s.ds ≠ .eccDone then seqError s
  else .done { s with final := finalBits s, ds := .final } (finalBits s).length

/-- RS.RDD (R228). -/
def opRsRdd (a b : Byte) (s : State) : Result :=
  if ¬ 3 ≤ s.ds.code then seqError s
  else if ¬ a.toNat < s.nblk then rangeError a.toNat s
  else if ¬ b.toNat < s.dlen a.toNat then rangeError b.toNat s
  else .done s (s.readData a.toNat b.toNat).toNat

/-- RS.RDE (R229). -/
def opRsRde (a b : Byte) (s : State) : Result :=
  if ¬ 3 ≤ s.ds.code then seqError s
  else if ¬ a.toNat < s.nblk then rangeError a.toNat s
  else if ¬ s.ev a.toNat then seqError s
  else if ¬ b.toNat < s.row.ec then rangeError b.toNat s
  else .done s (s.readRedundancy a.toNat b.toNat).toNat

/-! ### Commands -/

/-- RS.SPLIT (R223). -/
def execRsSplit (s : State) : Host.Outcome State Fault Refusal := runLive opRsSplit s

/-- RS.ECC a (R224). -/
def execRsEcc (a : Byte) (s : State) : Host.Outcome State Fault Refusal := runLive (opRsEcc a) s

/-- RS.ECCALL (R225). -/
def execRsEccAll (s : State) : Host.Outcome State Fault Refusal := runLive opRsEccAll s

/-- RS.SYN a (R226). -/
def execRsSyn (a : Byte) (s : State) : Host.Outcome State Fault Refusal := runLive (opRsSyn a) s

/-- RS.ILV (R227). -/
def execRsIlv (s : State) : Host.Outcome State Fault Refusal := runLive opRsIlv s

/-- RS.RDD a, b (R228). -/
def execRsRdd (a b : Byte) (s : State) : Host.Outcome State Fault Refusal := runLive (opRsRdd a b) s

/-- RS.RDE a, b (R229). -/
def execRsRde (a b : Byte) (s : State) : Host.Outcome State Fault Refusal := runLive (opRsRde a b) s

end Sys2Proof.Machine
end

