-- ==== Sys2Proof/Machine/Flags.lean ====
section
/-! DEFINITION. The flags and the sixteen status registers as `SR.RD` reads them (spec R26, R27). -/

namespace Sys2Proof.Machine

/-- `SV` as an 8-bit number: bit `k` is 1 when `SCORE[k]` is valid (R27). -/
def State.svBits (s : State) : Nat :=
  (List.finRange 8).foldl (fun acc k => acc + (s.sv k).toNat * 2 ^ k.val) 0

/-- `STATUS` (R27): GFV [0], FLT [1], TV [2], DONE [3], DS [7:4], MS [11:8], SV [19:12], the rest zero. -/
def State.status (s : State) : Nat :=
  s.gfv.toNat + 2 * s.flt.toNat + 4 * s.tv.toNat + 8 * s.done.toNat + 16 * s.ds.code + 256 * s.ms.code + 4096 * s.svBits

/-- `ERR` as a number: 0 is no fault (R26, R350). -/
def State.errNumber (s : State) : Nat :=
  match s.err with
  | none => 0
  | some c => c.code

/-- Status register `n` (R26); none above 15. -/
def State.statusRegister (s : State) (n : Nat) : Option Nat :=
  match n with
  | 0 => some s.status
  | 1 => some s.errNumber
  | 2 => some s.errInfo.toNat
  | 3 => some s.errCmd.toNat
  | 4 => some s.len
  | 5 => some s.tier
  | 6 => some s.size
  | 7 => some s.blen
  | 8 => some s.flen
  | 9 => some s.nblk
  | 10 => some s.evcnt
  | 11 => some s.tmask.val
  | 12 => some s.best.val
  | 13 => some s.bestScore.toNat
  | 14 => some s.cc.toNat
  | 15 => some s.nstamp
  | _ => none

end Sys2Proof.Machine
end

