-- ==== Sys2Proof/Machine/System.lean ====
section
/-! DEFINITION. The system commands (spec R330 to R334): NOP, JOB.NEW, SR.RD, ENCODE, TBL.RD. -/

namespace Sys2Proof.Machine

/-! ### Operations -/

/-- NOP (R330). -/
def opNop (s : State) : Result := .done s 0

/-- JOB.NEW (R331). -/
def opJobNew (s : State) : Result := .done s.newJob 0

/-- SR.RD (R332). -/
def opSrRd (a : Byte) (s : State) : Result :=
  match s.statusRegister a.toNat with
  | none => rangeError a.toNat s
  | some v => .done s v

/-- ENCODE (R333): the pipeline, each constituent with its own checks (R361).  The response is MK.TRYALL's, `BEST`. -/
def opEncodeJob (s : State) : Result :=
  if ¬ (s.ds = .text ∧ s.ms = .none) then seqError s
  else
    ((((((opVsel s).andThen opBsb).andThen opRsSplit).andThen opRsEccAll).andThen opRsIlv).andThen opMxBuild).andThen
      opMkTryall

/-- TBL.RD (R334). -/
def opTblRd (a b c : Byte) (s : State) : Result :=
  if ¬ tierInRange a then rangeError a.toNat s
  else
    match tblFieldOperand b with
    | none => rangeError b.toNat s
    | some f =>
      if ¬ f.indexOk (s.rom.row a.toNat) c.toNat then rangeError c.toNat s
      else .done s (f.entry (s.rom.row a.toNat) c.toNat)

/-! ### Commands -/

/-- NOP (R330); it completes in a dead job too (R357). -/
def execNop (s : State) : Host.Outcome State Fault Refusal := runAlways opNop s

/-- JOB.NEW (R331); accepted in every state (R357, R358). -/
def execJobNew (s : State) : Host.Outcome State Fault Refusal := runAlways opJobNew s

/-- SR.RD a (R332); it completes in a dead job too (R357, R359). -/
def execSrRd (a : Byte) (s : State) : Host.Outcome State Fault Refusal := runAlways (opSrRd a) s

/-- ENCODE (R333). -/
def execEncodeJob (s : State) : Host.Outcome State Fault Refusal := runLive opEncodeJob s

/-- TBL.RD a, b, c (R334). -/
def execTblRd (a b c : Byte) (s : State) : Host.Outcome State Fault Refusal := runLive (opTblRd a b c) s

end Sys2Proof.Machine
end

