-- ==== Sys2Proof/Machine/Dispatch.lean ====
section
/-! DEFINITION. The dispatch of a decoded command to its meaning: one arm per row of spec/opcode_table.json (R113). -/

namespace Sys2Proof.Machine

/-- The meaning of a command in the state in which its word has been accepted. -/
def exec (i : Instr) (s : State) : Host.Outcome State Fault Refusal :=
  match i with
  -- System
  | .nop => Sys2Proof.Machine.execNop s
  | .jobNew => Sys2Proof.Machine.execJobNew s
  | .srRd a => Sys2Proof.Machine.execSrRd a s
  | .encodeJob => Sys2Proof.Machine.execEncodeJob s
  | .tblRd a b c => Sys2Proof.Machine.execTblRd a b c s
  -- FrontEnd
  | .txtPush a => Sys2Proof.Machine.execTxtPush a s
  | .txtRd imm16 => Sys2Proof.Machine.execTxtRd imm16 s
  | .vsel => Sys2Proof.Machine.execVsel s
  | .vset a => Sys2Proof.Machine.execVset a s
  | .bsb => Sys2Proof.Machine.execBsb s
  | .dcwPush a => Sys2Proof.Machine.execDcwPush a s
  | .dcwSeal => Sys2Proof.Machine.execDcwSeal s
  | .bitsRd a imm16 => Sys2Proof.Machine.execBitsRd a imm16 s
  | .bitsRdb a imm16 => Sys2Proof.Machine.execBitsRdb a imm16 s
  -- Field
  | .gfExp a => Sys2Proof.Machine.execGfExp a s
  | .gfLog a => Sys2Proof.Machine.execGfLog a s
  | .gfMul a b => Sys2Proof.Machine.execGfMul a b s
  | .gfAdd a b => Sys2Proof.Machine.execGfAdd a b s
  -- Poly
  | .pClr a => Sys2Proof.Machine.execPClr a s
  | .pPush a b => Sys2Proof.Machine.execPPush a b s
  | .pRd a b => Sys2Proof.Machine.execPRd a b s
  | .pLen a => Sys2Proof.Machine.execPLen a s
  | .pMul => Sys2Proof.Machine.execPMul s
  | .pDiv => Sys2Proof.Machine.execPDiv s
  | .pGen a => Sys2Proof.Machine.execPGen a s
  | .pSyn a => Sys2Proof.Machine.execPSyn a s
  | .pMov a b => Sys2Proof.Machine.execPMov a b s
  -- ReedSolomon
  | .rsSplit => Sys2Proof.Machine.execRsSplit s
  | .rsEcc a => Sys2Proof.Machine.execRsEcc a s
  | .rsEccAll => Sys2Proof.Machine.execRsEccAll s
  | .rsSyn a => Sys2Proof.Machine.execRsSyn a s
  | .rsIlv => Sys2Proof.Machine.execRsIlv s
  | .rsRdd a b => Sys2Proof.Machine.execRsRdd a b s
  | .rsRde a b => Sys2Proof.Machine.execRsRde a b s
  -- Matrix
  | .mxAlloc => Sys2Proof.Machine.execMxAlloc s
  | .mxFind => Sys2Proof.Machine.execMxFind s
  | .mxSep => Sys2Proof.Machine.execMxSep s
  | .mxAlign => Sys2Proof.Machine.execMxAlign s
  | .mxTiming => Sys2Proof.Machine.execMxTiming s
  | .mxDark => Sys2Proof.Machine.execMxDark s
  | .mxFmt => Sys2Proof.Machine.execMxFmt s
  | .mxPlace => Sys2Proof.Machine.execMxPlace s
  | .mxFixed => Sys2Proof.Machine.execMxFixed s
  | .mxBuild => Sys2Proof.Machine.execMxBuild s
  | .gridRd a b c => Sys2Proof.Machine.execGridRd a b c s
  -- Mask
  | .mkBit a b c => Sys2Proof.Machine.execMkBit a b c s
  | .mkApply a => Sys2Proof.Machine.execMkApply a s
  | .mkP1 => Sys2Proof.Machine.execMkP1 s
  | .mkP2 => Sys2Proof.Machine.execMkP2 s
  | .mkP3 => Sys2Proof.Machine.execMkP3 s
  | .mkP4 => Sys2Proof.Machine.execMkP4 s
  | .mkScore => Sys2Proof.Machine.execMkScore s
  | .mkTryall => Sys2Proof.Machine.execMkTryall s
  | .mkRds a => Sys2Proof.Machine.execMkRds a s

end Sys2Proof.Machine
end

