-- ==== Sys2Proof/Machine/Step.lean ====
section
/-! DEFINITION. One step of the core (spec R19, R25, R42, R87, R91): it takes what is presented next.  A command word is
accepted and executed to completion; the reset input resets; with nothing presented nothing changes.  There is no
program counter and no fetch (R22, R95): the words come from the host, in order. -/

namespace Sys2Proof.Machine

/-- One step (R19). -/
def step (s : State) : Host.Outcome State Fault Refusal :=
  match s.input with
  | [] => .next s
  | .reset :: rest => .next (s.resetInput rest)
  | .resetDuring _ :: rest => .next (s.resetInput rest)
  | .command w :: rest =>
    match decode w with
    | .ok i => exec i (s.accept w rest)
    | .error e => .next ((s.accept w rest).illegalWord w e)

/-- The host presents the given instruction next: the place the core takes its next command from is the command channel
(R42).  A command is one 32-bit word, bit `k` of the table's row bit `k` of the word. -/
def State.withFetchWord (s : State) (nbits w : Nat) : State :=
  { s with input := .command (BitVec.ofNat 32 (w % 2 ^ nbits)) :: s.input }

end Sys2Proof.Machine
end

