-- ==== Sys2Proof/Machine/Asm.lean ====
section
/-! DEFINITION. The textual form of a command (spec R118): the mnemonic in capitals, then the operands in field order
separated by commas, each decimal, `0x` hexadecimal or, for a byte operand, a single-quoted ASCII character; a comment
runs from `;` to the end of the line. -/

namespace Sys2Proof.Machine

/-- A mnemonic's operands and the command they make (R111, R113). -/
inductive AsmForm where
  | z (i : Instr)
  | a (f : Byte → Instr)
  | ab (f : Byte → Byte → Instr)
  | abc (f : Byte → Byte → Byte → Instr)
  | i (f : Half → Instr)
  | ai (f : Byte → Half → Instr)

/-- The System family of R113. -/
def asmSystem : List (String × AsmForm) :=
  [("NOP", .z .nop), ("JOB.NEW", .z .jobNew), ("SR.RD", .a .srRd), ("ENCODE", .z .encodeJob),
   ("TBL.RD", .abc .tblRd)]

/-- The FrontEnd family of R113. -/
def asmFrontEnd : List (String × AsmForm) :=
  [("TXT.PUSH", .a .txtPush), ("TXT.RD", .i .txtRd), ("VSEL", .z .vsel), ("VSET", .a .vset),
   ("BSB", .z .bsb), ("DCW.PUSH", .a .dcwPush), ("DCW.SEAL", .z .dcwSeal), ("BITS.RD", .ai .bitsRd),
   ("BITS.RDB", .ai .bitsRdb)]

/-- The Field family of R113. -/
def asmField : List (String × AsmForm) :=
  [("GF.EXP", .a .gfExp), ("GF.LOG", .a .gfLog), ("GF.MUL", .ab .gfMul), ("GF.ADD", .ab .gfAdd)]

/-- The Poly family of R113. -/
def asmPoly : List (String × AsmForm) :=
  [("P.CLR", .a .pClr), ("P.PUSH", .ab .pPush), ("P.RD", .ab .pRd), ("P.LEN", .a .pLen), ("P.MUL", .z .pMul),
   ("P.DIV", .z .pDiv), ("P.GEN", .a .pGen), ("P.SYN", .a .pSyn), ("P.MOV", .ab .pMov)]

/-- The ReedSolomon family of R113. -/
def asmReedSolomon : List (String × AsmForm) :=
  [("RS.SPLIT", .z .rsSplit), ("RS.ECC", .a .rsEcc), ("RS.ECCALL", .z .rsEccAll), ("RS.SYN", .a .rsSyn),
   ("RS.ILV", .z .rsIlv), ("RS.RDD", .ab .rsRdd), ("RS.RDE", .ab .rsRde)]

/-- The Matrix family of R113. -/
def asmMatrix : List (String × AsmForm) :=
  [("MX.ALLOC", .z .mxAlloc), ("MX.FIND", .z .mxFind), ("MX.SEP", .z .mxSep), ("MX.ALIGN", .z .mxAlign),
   ("MX.TIMING", .z .mxTiming), ("MX.DARK", .z .mxDark), ("MX.FMT", .z .mxFmt), ("MX.PLACE", .z .mxPlace),
   ("MX.FIXED", .z .mxFixed), ("MX.BUILD", .z .mxBuild), ("GRID.RD", .abc .gridRd)]

/-- The Mask family of R113. -/
def asmMask : List (String × AsmForm) :=
  [("MK.BIT", .abc .mkBit), ("MK.APPLY", .a .mkApply), ("MK.P1", .z .mkP1), ("MK.P2", .z .mkP2),
   ("MK.P3", .z .mkP3), ("MK.P4", .z .mkP4), ("MK.SCORE", .z .mkScore), ("MK.TRYALL", .z .mkTryall),
   ("MK.RDS", .a .mkRds)]

/-- Every mnemonic with its operands (R113). -/
def asmTable : List (String × AsmForm) :=
  asmSystem ++ asmFrontEnd ++ asmField ++ asmPoly ++ asmReedSolomon ++ asmMatrix ++ asmMask

/-- The value of a digit in base 16. -/
def digitValue (c : Char) : Option Nat :=
  if '0' ≤ c ∧ c ≤ '9' then some (c.toNat - 48)
  else if 'A' ≤ c ∧ c ≤ 'F' then some (c.toNat - 55)
  else if 'a' ≤ c ∧ c ≤ 'f' then some (c.toNat - 87)
  else none

/-- The digits of a number in a base, from the value of the digits before. -/
def digitsFrom (base acc : Nat) : List Char → Option Nat
  | [] => some acc
  | c :: cs =>
    match digitValue c with
    | none => none
    | some d => if d < base then digitsFrom base (base * acc + d) cs else none

/-- A decimal or `0x` hexadecimal number (R118). -/
def parseNumber : List Char → Option Nat
  | [] => none
  | '0' :: 'x' :: c :: cs => digitsFrom 16 0 (c :: cs)
  | cs => digitsFrom 10 0 cs

/-- A byte operand: a number below 256 or a single-quoted ASCII character (R118). -/
def parseByte : List Char → Option Byte
  | ['\'', c, '\''] => if c.toNat < 128 then some (BitVec.ofNat 8 c.toNat) else none
  | cs =>
    match parseNumber cs with
    | none => none
    | some n => if n < 256 then some (BitVec.ofNat 8 n) else none

/-- A 16-bit operand: a number below 65536 (R118). -/
def parseHalf (cs : List Char) : Option Half :=
  match parseNumber cs with
  | none => none
  | some n => if n < 65536 then some (BitVec.ofNat 16 n) else none

/-- Without the spaces before and after. -/
def trimSpaces (cs : List Char) : List Char :=
  ((cs.dropWhile (· == ' ')).reverse.dropWhile (· == ' ')).reverse

/-- The text before a comment (R118).  A quoted `;` is an operand, not the start of a comment. -/
def beforeComment : List Char → List Char
  | [] => []
  | '\'' :: c :: '\'' :: cs => '\'' :: c :: '\'' :: beforeComment cs
  | c :: cs => if c = ';' then [] else c :: beforeComment cs

/-- The operands of a line, cut at the commas outside quotes; `cur` is the operand being read, last character first. -/
def splitOperands (cur : List Char) : List Char → List (List Char)
  | [] => [trimSpaces cur.reverse]
  | '\'' :: c :: '\'' :: cs => splitOperands ('\'' :: c :: '\'' :: cur) cs
  | c :: cs => if c = ',' then trimSpaces cur.reverse :: splitOperands [] cs else splitOperands (c :: cur) cs

/-- The command a mnemonic's form makes of the operands, if their number and ranges fit. -/
def AsmForm.build : AsmForm → List (List Char) → Option Instr
  | .z cmd, [] => some cmd
  | .a f, [x] => (parseByte x).map f
  | .ab f, [x, y] => (parseByte x).bind fun p => (parseByte y).map (f p)
  | .abc f, [x, y, v] => (parseByte x).bind fun p => (parseByte y).bind fun q => (parseByte v).map (f p q)
  | .i f, [x] => (parseHalf x).map f
  | .ai f, [x, y] => (parseByte x).bind fun p => (parseHalf y).map (f p)
  | _, _ => none

/-- One line of assembler text (R118): `some none` for a line without a command, `none` for a line that is no command. -/
def parseLine (line : String) : Option (Option Instr) :=
  let text := trimSpaces (beforeComment line.toList)
  let mnemonic := text.takeWhile (· != ' ')
  let rest := trimSpaces (text.dropWhile (· != ' '))
  if text.isEmpty then some none
  else
    match asmTable.find? (fun row => row.1.toList == mnemonic) with
    | none => none
    | some row => (row.2.build (if rest.isEmpty then [] else splitOperands [] rest)).map some

end Sys2Proof.Machine
end

