-- ==== Sys2Proof/Machine/Pseudo.lean ====
section
/-! DEFINITION. The pseudo-commands of the assembler syntax (spec R119) as lists of command words, and the call
`encode(text)` on the interface (R44, R394).  The machine does not know them: they say what a host sends. -/

namespace Sys2Proof.Machine

/-- The words of a list of commands, in order. -/
def wordsOf (is : List Instr) : List Word := is.map encode

/-- `TXT.STR`: TXT.PUSH for each byte, in order (R119).  The bytes are the text's UTF-8 form, made by the host (R7). -/
def txtStr (bytes : List Byte) : List Word := wordsOf (bytes.map .txtPush)

/-- `DCW.STR`: DCW.PUSH for each listed byte, in order (R119). -/
def dcwStr (codewords : List Byte) : List Word := wordsOf (codewords.map .dcwPush)

/-- `P.LOAD r, [c0, …]`: P.CLR, then P.PUSH for each coefficient (R119). -/
def pLoad (r : Byte) (coeffs : List Byte) : List Word := wordsOf (.pClr r :: coeffs.map (.pPush r))

/-- `ENCODE.STR`: JOB.NEW, TXT.STR, ENCODE (R119); the call `encode(text)` (R44). -/
def encodeStr (bytes : List Byte) : List Word := wordsOf [.jobNew] ++ txtStr bytes ++ wordsOf [.encodeJob]

/-- `REPEAT n`: the enclosed commands `n` times (R119). -/
def repeatWords (n : Nat) (ws : List Word) : List Word := (List.replicate n ws).flatten

/-- The host presents a list of command words, after what it presents already (R19, R22: arrival order). -/
def State.present (s : State) (ws : List Word) : State := { s with input := s.input ++ ws.map .command }

end Sys2Proof.Machine
end

