-- ==== Sys2Proof/WellFormed.lean ====
section
/-! DEFINITION. Well-formedness, twice: of a command word (spec R110, R111, R113, R115: which of the 2^32 words are
commands at all) and of a command's operands (R113, R116: the range a rule allows an operand whatever the state).  A
command whose operand is out of range is still a legal command; it raises RangeError when it executes (R116), so nothing
in the machine assumes `Instr.wellFormed`. -/

namespace Sys2Proof

/-- The six formats of R111. -/
inductive Format where
  | z | a | ab | abc | i | ai
  deriving DecidableEq, Repr

namespace WellFormed

/-- System family, high nibble 0. -/
def formatsSystem : List (Byte × Format) :=
  [(0x00, .z), (0x01, .z), (0x02, .a), (0x03, .z), (0x04, .abc)]

/-- FrontEnd family, high nibble 1. -/
def formatsFrontEnd : List (Byte × Format) :=
  [(0x10, .a), (0x11, .i), (0x12, .z), (0x13, .a), (0x14, .z), (0x15, .a), (0x16, .z),
   (0x17, .ai), (0x18, .ai)]

/-- Field family, high nibble 2. -/
def formatsField : List (Byte × Format) :=
  [(0x20, .a), (0x21, .a), (0x22, .ab), (0x23, .ab)]

/-- Poly family, high nibble 3. -/
def formatsPoly : List (Byte × Format) :=
  [(0x30, .a), (0x31, .ab), (0x32, .ab), (0x33, .a), (0x34, .z), (0x35, .z), (0x36, .a),
   (0x37, .a), (0x38, .ab)]

/-- ReedSolomon family, high nibble 4. -/
def formatsReedSolomon : List (Byte × Format) :=
  [(0x40, .z), (0x41, .a), (0x42, .z), (0x43, .a), (0x44, .z), (0x45, .ab), (0x46, .ab)]

/-- Matrix family, high nibble 5. -/
def formatsMatrix : List (Byte × Format) :=
  [(0x50, .z), (0x51, .z), (0x52, .z), (0x53, .z), (0x54, .z), (0x55, .z), (0x56, .z),
   (0x57, .z), (0x58, .z), (0x59, .z), (0x5A, .abc)]

/-- Mask family, high nibble 6. -/
def formatsMask : List (Byte × Format) :=
  [(0x60, .abc), (0x61, .a), (0x62, .z), (0x63, .z), (0x64, .z), (0x65, .z), (0x66, .z),
   (0x67, .z), (0x68, .a)]

/-- The opcode map of R113: every opcode with its format. -/
def formatTable : List (Byte × Format) :=
  formatsSystem ++ formatsFrontEnd ++ formatsField ++ formatsPoly ++ formatsReedSolomon ++ formatsMatrix ++ formatsMask

/-- The bits a format leaves unused, which must be zero (R111). -/
def mustBeZero : Format → Word
  | .z => 0x00FFFFFF
  | .a => 0x0000FFFF
  | .ab => 0x000000FF
  | .abc => 0x00000000
  | .i => 0x00FF0000
  | .ai => 0x00000000

/-- A listed opcode (R113). -/
def opcodeListed (w : Word) : Bool :=
  (formatTable.lookup (w.extractLsb' 24 8)).isSome

/-- A legal command word (R114, R115): a listed opcode whose format's unused bits are zero. -/
def legalWord (w : Word) : Bool :=
  match formatTable.lookup (w.extractLsb' 24 8) with
  | none => false
  | some f => w &&& mustBeZero f == 0

/-- A polynomial register number, 0 to 3 (R30). -/
def isReg (a : Byte) : Bool := a.toNat < 4

/-- A mask index, 0 to 7 (R292). -/
def isMask (a : Byte) : Bool := a.toNat < 8

/-- A tier, 1 to 40 (R10). -/
def isTier (a : Byte) : Bool := 1 ≤ a.toNat && a.toNat ≤ 40

end WellFormed

open WellFormed in
/-- The operand ranges that do not depend on the state (R113, R116, and each command's rule). -/
def Instr.wellFormed : Instr → Bool
  | .srRd a => a.toNat ≤ 15
  | .tblRd a b _ => isTier a && b.toNat ≤ 11
  | .vset a => isTier a
  | .bitsRd a _ => a.toNat ≤ 1
  | .bitsRdb a _ => a.toNat ≤ 1
  | .pClr a => isReg a
  | .pPush a _ => isReg a
  | .pRd a _ => isReg a
  | .pLen a => isReg a
  | .pMov a b => isReg a && isReg b
  | .gridRd a _ _ => a.toNat ≤ 3
  | .mkBit a _ _ => isMask a
  | .mkApply a => isMask a
  | .mkRds a => isMask a
  | .nop | .jobNew | .encodeJob | .txtPush _ | .txtRd _ | .vsel | .bsb | .dcwPush _ | .dcwSeal => true
  | .gfExp _ | .gfLog _ | .gfMul _ _ | .gfAdd _ _ | .pMul | .pDiv | .pGen _ | .pSyn _ => true
  | .rsSplit | .rsEcc _ | .rsEccAll | .rsSyn _ | .rsIlv | .rsRdd _ _ | .rsRde _ _ => true
  | .mxAlloc | .mxFind | .mxSep | .mxAlign | .mxTiming | .mxDark | .mxFmt | .mxPlace | .mxFixed | .mxBuild => true
  | .mkP1 | .mkP2 | .mkP3 | .mkP4 | .mkScore | .mkTryall => true

end Sys2Proof
end

