-- ==== Sys2Proof/Safety.lean ====
section
/-! DEFINITION. The terms the claims are stated in: what an answered command leaves, what each command may write and
raise (spec R80, R351, R395), sequences of commands, and the invariants of the core (R23 to R33, R266 to R268). -/

namespace Sys2Proof.Safety

open Sys2Proof.Machine

/-! ### Answers -/

/-- A live job: no command of it has faulted (R27, R357). -/
abbrev live (s : State) : Prop := s.flt = false

/-- The response `(ok = 1, val = zext_32(v))` (R43). -/
def ok (v : Nat) : Option Response := some ⟨true, zext32 v⟩

/-- The response `(ok = 0, val = code)` (R43, R350). -/
def failed (c : FaultCode) : Option Response := some ⟨false, zext32 c.code⟩

/-- Fault entry in a live job, written out (R356). -/
def trapped (c : FaultCode) (info : Nat) (s : State) : State :=
  { s with flt := true, err := some c, errInfo := zext32 info, errCmd := s.cmd, resp := failed c }

/-- Run commands one after another, each on the state the one before left; none as soon as one is not answered
`ok = 1`. -/
def execAll : List Instr → State → Option State
  | [], s => some s
  | i :: is, s =>
    match exec i s with
    | .next t => if t.resp.any (·.ok) then execAll is t else none
    | .fault _ => none
    | .refused _ => none

/-- `k` steps of the machine, as long as each answers a next state. -/
def steps : Nat → State → Option State
  | 0, s => some s
  | k + 1, s =>
    match step s with
    | .next t => steps k t
    | .fault _ => none
    | .refused _ => none

/-! ### What each command may do -/

/-- The macro commands (R361). -/
def isMacro : Instr → Bool
  | .encodeJob | .rsEccAll | .mxFixed | .mxBuild | .mkTryall => true
  | .nop | .jobNew | .srRd _ | .tblRd _ _ _ | .txtPush _ | .txtRd _ | .vsel | .vset _ | .bsb => false
  | .dcwPush _ | .dcwSeal | .bitsRd _ _ | .bitsRdb _ _ | .gfExp _ | .gfLog _ | .gfMul _ _ => false
  | .gfAdd _ _ | .pClr _ | .pPush _ _ | .pRd _ _ | .pLen _ | .pMul | .pDiv | .pGen _ | .pSyn _ => false
  | .pMov _ _ | .rsSplit | .rsEcc _ | .rsSyn _ | .rsIlv | .rsRdd _ _ | .rsRde _ _ | .mxAlloc => false
  | .mxFind | .mxSep | .mxAlign | .mxTiming | .mxDark | .mxFmt | .mxPlace | .gridRd _ _ _ => false
  | .mkBit _ _ _ | .mkApply _ | .mkP1 | .mkP2 | .mkP3 | .mkP4 | .mkScore | .mkRds _ => false

/-- Steps 0 to 6 of the matrix builder (R262). -/
def fixedSteps : List Instr := [.mxAlloc, .mxFind, .mxSep, .mxAlign, .mxTiming, .mxDark, .mxFmt]

/-- The constituents of a macro command in the state it starts in, in order (R225, R262, R263, R305, R333, R361).  MX.BUILD
and ENCODE are taken down to the steps of the matrix builder, since a constituent of theirs that is itself a macro command
keeps what its own constituents did.  A command that is no macro has none. -/
def constituents (s : State) : Instr → List Instr
  | .rsEccAll => (List.range s.nblk).map fun b => .rsEcc (BitVec.ofNat 8 b)
  | .mxFixed => fixedSteps
  | .mxBuild => fixedSteps ++ [.mxPlace]
  | .mkTryall => (List.range 8).flatMap fun k => [.mkApply (BitVec.ofNat 8 k), .mkScore]
  | .encodeJob => [.vsel, .bsb, .rsSplit, .rsEccAll, .rsIlv] ++ fixedSteps ++ [.mxPlace, .mkTryall]
  | .nop | .jobNew | .srRd _ | .tblRd _ _ _ | .txtPush _ | .txtRd _ | .vsel | .vset _ | .bsb => []
  | .dcwPush _ | .dcwSeal | .bitsRd _ _ | .bitsRdb _ _ | .gfExp _ | .gfLog _ | .gfMul _ _ => []
  | .gfAdd _ _ | .pClr _ | .pPush _ _ | .pRd _ _ | .pLen _ | .pMul | .pDiv | .pGen _ | .pSyn _ => []
  | .pMov _ _ | .rsSplit | .rsEcc _ | .rsSyn _ | .rsIlv | .rsRdd _ _ | .rsRde _ _ | .mxAlloc => []
  | .mxFind | .mxSep | .mxAlign | .mxTiming | .mxDark | .mxFmt | .mxPlace | .gridRd _ _ _ => []
  | .mkBit _ _ _ | .mkApply _ | .mkP1 | .mkP2 | .mkP3 | .mkP4 | .mkScore | .mkRds _ => []

/-- The commands a dead job executes (R357). -/
def isExempt : Instr → Bool
  | .nop | .jobNew | .srRd _ => true
  | .encodeJob | .tblRd _ _ _ | .txtPush _ | .txtRd _ | .vsel | .vset _ | .bsb | .dcwPush _ => false
  | .dcwSeal | .bitsRd _ _ | .bitsRdb _ _ | .gfExp _ | .gfLog _ | .gfMul _ _ | .gfAdd _ _ | .pClr _ => false
  | .pPush _ _ | .pRd _ _ | .pLen _ | .pMul | .pDiv | .pGen _ | .pSyn _ | .pMov _ _ | .rsSplit => false
  | .rsEcc _ | .rsEccAll | .rsSyn _ | .rsIlv | .rsRdd _ _ | .rsRde _ _ | .mxAlloc | .mxFind | .mxSep => false
  | .mxAlign | .mxTiming | .mxDark | .mxFmt | .mxPlace | .mxFixed | .mxBuild | .gridRd _ _ _ => false
  | .mkBit _ _ _ | .mkApply _ | .mkP1 | .mkP2 | .mkP3 | .mkP4 | .mkScore | .mkTryall | .mkRds _ => false

/-- The commands that only read (R88). -/
def isRead : Instr → Bool
  | .srRd _ | .tblRd _ _ _ | .txtRd _ | .bitsRd _ _ | .bitsRdb _ _ | .gfExp _ | .gfLog _ => true
  | .gfMul _ _ | .gfAdd _ _ | .pRd _ _ | .pLen _ | .rsRdd _ _ | .rsRde _ _ | .gridRd _ _ _ => true
  | .mkBit _ _ _ | .mkP1 | .mkP2 | .mkP3 | .mkP4 | .mkRds _ => true
  | .nop | .jobNew | .encodeJob | .txtPush _ | .vsel | .vset _ | .bsb | .dcwPush _ | .dcwSeal => false
  | .pClr _ | .pPush _ _ | .pMul | .pDiv | .pGen _ | .pSyn _ | .pMov _ _ | .rsSplit | .rsEcc _ => false
  | .rsEccAll | .rsSyn _ | .rsIlv | .mxAlloc | .mxFind | .mxSep | .mxAlign | .mxTiming | .mxDark => false
  | .mxFmt | .mxPlace | .mxFixed | .mxBuild | .mkApply _ | .mkScore | .mkTryall => false

/-- The spaces of R80. -/
inductive Space where
  | text | bits | d | e | final | g | r | t | o | score | poly
  deriving DecidableEq, Repr

/-- The spaces a command may write: the column "written by" of R80, with the macro commands' constituents, RS.SPLIT clearing
the marks of E (R223) and JOB.NEW discarding every space (R331). -/
def writes : Instr → List Space
  | .nop => []
  | .jobNew => [.text, .bits, .d, .e, .final, .g, .r, .t, .o, .score, .poly]
  | .srRd _ => []
  | .encodeJob => [.bits, .d, .e, .final, .g, .r, .t, .o, .score]
  | .tblRd _ _ _ => []
  | .txtPush _ => [.text]
  | .txtRd _ => []
  | .vsel => []
  | .vset _ => []
  | .bsb => [.bits]
  | .dcwPush _ => [.bits]
  | .dcwSeal => []
  | .bitsRd _ _ => []
  | .bitsRdb _ _ => []
  | .gfExp _ => []
  | .gfLog _ => []
  | .gfMul _ _ => []
  | .gfAdd _ _ => []
  | .pClr _ => [.poly]
  | .pPush _ _ => [.poly]
  | .pRd _ _ => []
  | .pLen _ => []
  | .pMul => [.poly]
  | .pDiv => [.poly]
  | .pGen _ => [.poly]
  | .pSyn _ => [.poly]
  | .pMov _ _ => [.poly]
  | .rsSplit => [.d, .e]
  | .rsEcc _ => [.e]
  | .rsEccAll => [.e]
  | .rsSyn _ => [.poly]
  | .rsIlv => [.final]
  | .rsRdd _ _ => []
  | .rsRde _ _ => []
  | .mxAlloc => [.g, .r]
  | .mxFind => [.g, .r]
  | .mxSep => [.r]
  | .mxAlign => [.g, .r]
  | .mxTiming => [.g, .r]
  | .mxDark => [.g, .r]
  | .mxFmt => [.r]
  | .mxPlace => [.g]
  | .mxFixed => [.g, .r]
  | .mxBuild => [.g, .r]
  | .gridRd _ _ _ => []
  | .mkBit _ _ _ => []
  | .mkApply _ => [.t]
  | .mkP1 => []
  | .mkP2 => []
  | .mkP3 => []
  | .mkP4 => []
  | .mkScore => [.score]
  | .mkTryall => [.t, .o, .score]
  | .mkRds _ => []

/-- Whether a command may write a space. -/
def mayWrite (i : Instr) (sp : Space) : Bool := (writes i).contains sp

/-- The two states agree on a space. -/
def sameOn (s t : State) : Space → Prop
  | .text => t.text = s.text
  | .bits => t.bits = s.bits
  | .d => t.d = s.d
  | .e => t.e = s.e
  | .final => t.final = s.final
  | .g => t.g = s.g
  | .r => t.r = s.r
  | .t => t.t = s.t
  | .o => t.o = s.o
  | .score => t.score = s.score
  | .poly => t.poly = s.poly

/-- The faults a command of a live job may raise: the columns "code" and "raised by" of R351. -/
def raises : Instr → List FaultCode
  | .nop => []
  | .jobNew => []
  | .srRd _ => [.rangeError]
  | .encodeJob => [.capacityExceeded, .internalTableError, .lengthError, .sequenceError]
  | .tblRd _ _ _ => [.rangeError]
  | .txtPush _ => [.sequenceError, .rangeError]
  | .txtRd _ => [.rangeError]
  | .vsel => [.capacityExceeded, .sequenceError]
  | .vset _ => [.sequenceError, .rangeError]
  | .bsb => [.internalTableError, .sequenceError]
  | .dcwPush _ => [.sequenceError, .rangeError]
  | .dcwSeal => [.sequenceError, .lengthError]
  | .bitsRd _ _ => [.rangeError]
  | .bitsRdb _ _ => [.rangeError]
  | .gfExp _ => []
  | .gfLog _ => [.fieldLookupFailure]
  | .gfMul _ _ => []
  | .gfAdd _ _ => []
  | .pClr _ => [.rangeError]
  | .pPush _ _ => [.rangeError]
  | .pRd _ _ => [.rangeError]
  | .pLen _ => [.rangeError]
  | .pMul => [.rangeError]
  | .pDiv => [.fieldLookupFailure, .rangeError]
  | .pGen _ => []
  | .pSyn _ => []
  | .pMov _ _ => [.rangeError]
  | .rsSplit => [.internalTableError, .sequenceError]
  | .rsEcc _ => [.sequenceError, .rangeError]
  | .rsEccAll => [.sequenceError]
  | .rsSyn _ => [.sequenceError, .rangeError]
  | .rsIlv => [.sequenceError]
  | .rsRdd _ _ => [.sequenceError, .rangeError]
  | .rsRde _ _ => [.sequenceError, .rangeError]
  | .mxAlloc => [.sequenceError]
  | .mxFind => [.sequenceError]
  | .mxSep => [.sequenceError]
  | .mxAlign => [.sequenceError]
  | .mxTiming => [.sequenceError]
  | .mxDark => [.sequenceError]
  | .mxFmt => [.sequenceError]
  | .mxPlace => [.sequenceError, .lengthError]
  | .mxFixed => [.sequenceError]
  | .mxBuild => [.sequenceError, .lengthError]
  | .gridRd _ _ _ => [.sequenceError, .rangeError]
  | .mkBit _ _ _ => [.rangeError]
  | .mkApply _ => [.sequenceError, .rangeError]
  | .mkP1 => [.sequenceError]
  | .mkP2 => [.sequenceError]
  | .mkP3 => [.sequenceError]
  | .mkP4 => [.sequenceError]
  | .mkScore => [.sequenceError]
  | .mkTryall => [.sequenceError]
  | .mkRds _ => [.sequenceError, .rangeError]

/-- Whether a command may raise a fault. -/
def mayRaise (c : FaultCode) (i : Instr) : Bool := (raises i).contains c

/-- The column "requires" of R395. -/
def stageOk (s : State) : Instr → Bool
  | .txtPush _ | .vsel | .vset _ => s.ds.code == 0
  | .bsb => s.ds.code == 1 && s.blen == 0
  | .dcwPush _ | .dcwSeal => s.ds.code == 1
  | .rsSplit => s.ds.code == 2
  | .rsEcc _ | .rsEccAll => s.ds.code == 3 || s.ds.code == 4
  | .rsSyn a => 3 ≤ s.ds.code && s.ev a.toNat
  | .rsRde a _ => 3 ≤ s.ds.code && s.ev a.toNat
  | .rsRdd _ _ => 3 ≤ s.ds.code
  | .rsIlv => s.ds.code == 4
  | .mxAlloc | .mxFixed => 1 ≤ s.ds.code && s.ms.code == 0
  | .mxFind => s.ms.code == 1
  | .mxSep => s.ms.code == 2
  | .mxAlign => s.ms.code == 3
  | .mxTiming => s.ms.code == 4
  | .mxDark => s.ms.code == 5
  | .mxFmt => s.ms.code == 6
  | .mxPlace => s.ds.code == 5 && s.ms.code == 7
  | .mxBuild => s.ds.code == 5 && s.ms.code == 0
  | .mkApply _ | .mkTryall => 8 ≤ s.ms.code
  | .mkP1 | .mkP2 | .mkP3 | .mkP4 | .mkScore => s.tv
  | .mkRds a => if h : a.toNat < 8 then s.sv ⟨a.toNat, h⟩ else true
  | .gridRd a _ _ =>
    match a.toNat with
    | 0 => 1 ≤ s.ms.code
    | 1 => 1 ≤ s.ms.code
    | 2 => s.tv
    | 3 => s.ms.code == 9
    | _ => true
  | .encodeJob => s.ds.code == 0 && s.ms.code == 0
  | .nop | .jobNew | .srRd _ | .tblRd _ _ _ | .txtRd _ | .bitsRd _ _ | .bitsRdb _ _ | .gfExp _ => true
  | .gfLog _ | .gfMul _ _ | .gfAdd _ _ | .pClr _ | .pPush _ _ | .pRd _ _ | .pLen _ | .pMul | .pDiv => true
  | .pGen _ | .pSyn _ | .pMov _ _ | .mkBit _ _ _ => true

/-- The block operand of RS.SYN and RS.RDE, which is checked between the two stage conditions (R226, R229). -/
def blockOk (s : State) : Instr → Bool
  | .rsSyn a => s.ds.code < 3 || a.toNat < s.nblk
  | .rsRde a _ => s.ds.code < 3 || a.toNat < s.nblk
  | .nop | .jobNew | .srRd _ | .encodeJob | .tblRd _ _ _ | .txtPush _ | .txtRd _ | .vsel | .vset _ => true
  | .bsb | .dcwPush _ | .dcwSeal | .bitsRd _ _ | .bitsRdb _ _ | .gfExp _ | .gfLog _ | .gfMul _ _ => true
  | .gfAdd _ _ | .pClr _ | .pPush _ _ | .pRd _ _ | .pLen _ | .pMul | .pDiv | .pGen _ | .pSyn _ => true
  | .pMov _ _ | .rsSplit | .rsEcc _ | .rsEccAll | .rsIlv | .rsRdd _ _ | .mxAlloc | .mxFind | .mxSep => true
  | .mxAlign | .mxTiming | .mxDark | .mxFmt | .mxPlace | .mxFixed | .mxBuild | .gridRd _ _ _ => true
  | .mkBit _ _ _ | .mkApply _ | .mkP1 | .mkP2 | .mkP3 | .mkP4 | .mkScore | .mkTryall | .mkRds _ => true

/-- The first operand outside the range its rule gives it whatever the state, in the order the rule checks them (R116). -/
def offending : Instr → Option Nat
  | .srRd a => if a.toNat ≤ 15 then none else some a.toNat
  | .tblRd a b _ => if ¬ (1 ≤ a.toNat ∧ a.toNat ≤ 40) then some a.toNat else if b.toNat ≤ 11 then none else some b.toNat
  | .vset a => if 1 ≤ a.toNat ∧ a.toNat ≤ 40 then none else some a.toNat
  | .bitsRd a _ => if a.toNat ≤ 1 then none else some a.toNat
  | .bitsRdb a _ => if a.toNat ≤ 1 then none else some a.toNat
  | .pClr a => if a.toNat ≤ 3 then none else some a.toNat
  | .pPush a _ => if a.toNat ≤ 3 then none else some a.toNat
  | .pRd a _ => if a.toNat ≤ 3 then none else some a.toNat
  | .pLen a => if a.toNat ≤ 3 then none else some a.toNat
  | .pMov a b => if ¬ a.toNat ≤ 3 then some a.toNat else if b.toNat ≤ 3 then none else some b.toNat
  | .gridRd a _ _ => if a.toNat ≤ 3 then none else some a.toNat
  | .mkBit a _ _ => if a.toNat ≤ 7 then none else some a.toNat
  | .mkApply a => if a.toNat ≤ 7 then none else some a.toNat
  | .mkRds a => if a.toNat ≤ 7 then none else some a.toNat
  | .nop | .jobNew | .encodeJob | .txtPush _ | .txtRd _ | .vsel | .bsb | .dcwPush _ | .dcwSeal => none
  | .gfExp _ | .gfLog _ | .gfMul _ _ | .gfAdd _ _ | .pMul | .pDiv | .pGen _ | .pSyn _ | .rsSplit => none
  | .rsEcc _ | .rsEccAll | .rsSyn _ | .rsIlv | .rsRdd _ _ | .rsRde _ _ | .mxAlloc | .mxFind | .mxSep => none
  | .mxAlign | .mxTiming | .mxDark | .mxFmt | .mxPlace | .mxFixed | .mxBuild | .mkP1 | .mkP2 | .mkP3 => none
  | .mkP4 | .mkScore | .mkTryall => none

/-! ### Reference functions the claims compare the machine with -/

/-- `v` doubled and reduced `i` times: `v * t^i` (R170). -/
def timesPower : Nat → Nat → Nat
  | 0, v => v
  | i + 1, v => nextPower (timesPower i v)

/-- The carry-less product of two bit polynomials reduced modulo 0x11D (R174): the sum of the multiples `a * t^i` for the
bits `i` of `b`, each multiple by doubling and reducing. -/
def carrylessMul (a b : Nat) : Nat :=
  (List.range 8).foldl (fun acc i => if b.testBit i then acc ^^^ timesPower i a else acc) 0

/-- The exclusive or of `f 0`, ..., `f (n-1)`: a sum in the field (R171). -/
def xorSum (n : Nat) (f : Nat → Nat) : Nat := (List.range n).foldl (fun acc i => acc ^^^ f i) 0

/-- `alpha^n`, by `n` doublings of 1 (R36, R172). -/
def alphaPow (n : Nat) : Nat := timesPower n 1

/-- The value of a polynomial at `alpha^i`, term by term: the coefficient at position `j` of `n` belongs to the power
`n - 1 - j` (R190, R195). -/
def valueAt (p : Poly) (i : Nat) : Nat :=
  xorSum p.length fun j => carrylessMul (p.getD j 0).toNat (alphaPow (i * (p.length - 1 - j)))

/-- Coefficient `k` of the product of two polynomials (R192). -/
def productCoeff (p q : Poly) (k : Nat) : Nat :=
  xorSum (k + 1) fun i => carrylessMul (p.getD i 0).toNat (q.getD (k - i) 0).toNat

/-- One step of the loop R222 writes out, at position `k` of the working copy. -/
def eccLoopStep (rom : Rom) (g : Poly) (w : Poly) (k : Nat) : Poly :=
  if w.getD k 0 = 0 then w
  else (List.range g.length).foldl (fun acc j => acc.set (k + j) (acc.getD (k + j) 0 ^^^ gfMul rom (w.getD k 0) (g.getD j 0))) w

/-- The redundancy codewords by the loop R222 writes out. -/
def eccLoop (rom : Rom) (data : List Byte) (n : Nat) : List Byte :=
  ((List.range data.length).foldl (eccLoopStep rom (genPoly rom n)) (data ++ List.replicate n 0)).drop data.length

/-- The polynomial registers by number (R30). -/
def polyRegs (s : State) : List Poly := [s.poly.pa, s.poly.pb, s.poly.pq, s.poly.pr]

/-- A cell of one of the three locator patterns of a grid of side `n`, with its bit (R253). -/
def locatorAt (n x y : Nat) : Option Bool :=
  if x < 7 ∧ y < 7 then some (finderBit x y)
  else if n - 7 ≤ x ∧ x < n ∧ y < 7 then some (finderBit (x - (n - 7)) y)
  else if x < 7 ∧ n - 7 ≤ y ∧ y < n then some (finderBit x (y - (n - 7)))
  else none

/-- A separator cell (R254): the two inner sides of each locator. -/
def isSeparator (n x y : Nat) : Bool :=
  (x == 7 && y ≤ 7) || (y == 7 && x ≤ 7) ||
  (x == n - 8 && y ≤ 7) || (y == 7 && n - 8 ≤ x && x < n) ||
  (y == n - 8 && x ≤ 7) || (x == 7 && n - 8 ≤ y && y < n)

/-- The centres of the alignment patterns: all pairs of coordinates but the three on the locators (R39, R255). -/
def alignmentCentres (al : List Nat) (n : Nat) : List Cell :=
  (al.flatMap fun cx => al.map fun cy => (cx, cy)).filter fun c => !(c == (6, 6) || c == (6, n - 7) || c == (n - 7, 6))

/-- Whether `(x, y)` lies in the 5x5 footprint of the centre `c` (R255). -/
def inFootprint (c : Cell) (x y : Nat) : Bool := c.1 ≤ x + 2 && x ≤ c.1 + 2 && c.2 ≤ y + 2 && y ≤ c.2 + 2

/-- `max(|x - cx|, |y - cy|)`: the ring of the centre `c` a cell is on. -/
def ring (c : Cell) (x y : Nat) : Nat := max (max x c.1 - min x c.1) (max y c.2 - min y c.2)

/-- A cell of an alignment pattern, with its bit (R40, R256). -/
def alignmentAt (al : List Nat) (n x y : Nat) : Option Bool :=
  ((alignmentCentres al n).find? (inFootprint · x y)).map fun c => ring c x y != 1

/-- A cell of a timing strip (R257). -/
def isTiming (n x y : Nat) : Bool :=
  (y == 6 && 8 ≤ x && x + 9 ≤ n) || (x == 6 && 8 ≤ y && y + 9 ≤ n)

/-- A cell of a format area (R259). -/
def isFormat (n x y : Nat) : Bool :=
  (y == 8 && x ≤ 8) || (x == 8 && y ≤ 8) ||
  (y == 8 && n - 8 ≤ x && x < n) || (x == 8 && n - 8 ≤ y && y < n)

/-- A cell of a version area, tiers 7 and up (R259). -/
def isVersion (tier n x y : Nat) : Bool :=
  7 ≤ tier && ((x ≤ 5 && n - 11 ≤ y && y + 9 ≤ n) || (y ≤ 5 && n - 11 ≤ x && x + 9 ≤ n))

/-- A cell that is reserved and light in every output (R267). -/
def isBlank (tier n x y : Nat) : Bool :=
  (isSeparator n x y || isFormat n x y || isVersion tier n x y) &&
  !((x == 6 && y == 8) || (x == 8 && y == 6) || (x == 8 && y == n - 8))

/-- The matrix path has its tier, its side and its two square grids (R250): what the steps 1 to 7 work on. -/
structure GridReady (s : State) : Prop where
  rom : s.rom = Rom.standard
  tier : 1 ≤ s.tier ∧ s.tier ≤ 40
  side : s.size = 21 + 4 * (s.tier - 1)
  gridG : s.g.wf s.size = true
  gridR : s.r.wf s.size = true

/-- The place of a cell in the traversal of R260, whichever cells are reserved: the column pair, counted from the right edge
and skipping column 6; within it the row in the direction of the sweep; within the row the right cell first. -/
def zigzagRank (n : Nat) (c : Cell) : Nat :=
  let fromRight := if 6 < c.1 then n - 1 - c.1 else n - 2 - c.1
  let pair := fromRight / 2
  (pair * n + (if pair % 2 = 0 then n - 1 - c.2 else c.2)) * 2 + fromRight % 2

/-! #### Penalties, counted another way than the machine does -/

/-- Five cells of a line from position `i` on have one colour. -/
def fiveEqual (f : Nat → Bool) (i : Nat) : Bool := (List.range 5).all fun d => f (i + d) == f i

/-- The penalty of a line's runs (R296): a run of `L >= 5` cells holds `L - 4` windows of five equal cells, one of them the
first of its run, so `L - 2` is the number of windows plus 2 for the first. -/
def lineRuns (n : Nat) (f : Nat → Bool) : Nat :=
  (List.range (n - 4)).countP (fiveEqual f) +
  2 * (List.range (n - 4)).countP (fun i => fiveEqual f i && (i == 0 || f (i - 1) != f i))

/-- P1 over every row and every column (R296). -/
def runsPenalty (n : Nat) (t : Grid) : Nat :=
  ((List.range n).map fun y => lineRuns n fun x => t.get x y).sum + ((List.range n).map fun x => lineRuns n fun y => t.get x y).sum

/-- The cells `(x, y)` with `x` below `w` and `y` below `h`. -/
def cellsBelow (w h : Nat) : List Cell := (List.range w).flatMap fun x => (List.range h).map fun y => (x, y)

/-- P2: the 2x2 windows whose four cells are all dark or all light (R297). -/
def blocksPenalty (n : Nat) (t : Grid) : Nat :=
  3 * (cellsBelow (n - 1) (n - 1)).countP fun c =>
    let four := [t.get c.1 c.2, t.get (c.1 + 1) c.2, t.get c.1 (c.2 + 1), t.get (c.1 + 1) (c.2 + 1)]
    four == [true, true, true, true] || four == [false, false, false, false]

/-- `P3A` or `P3B` stands at 11 cells of a line (R40, R298). -/
def locatorLike (f : Nat → Bool) : Bool :=
  let window := (List.range 11).map f
  window == [true, false, true, true, true, false, true, false, false, false, false] ||
  window == [false, false, false, false, true, false, true, true, true, false, true]

/-- P3: the horizontal and the vertical windows (R298). -/
def windowsPenalty (n : Nat) (t : Grid) : Nat :=
  40 * (cellsBelow (n - 10) n).countP (fun c => locatorLike fun d => t.get (c.1 + d) c.2) +
  40 * (cellsBelow n (n - 10)).countP (fun c => locatorLike fun d => t.get c.1 (c.2 + d))

/-- P4 in tens: the dark cells in twentieths of the grid, rounded down, and the next twentieth (R299). -/
def balancePenalty (n : Nat) (t : Grid) : Nat :=
  let k := 20 * (cellsBelow n n).countP (fun c => t.get c.1 c.2) / (n * n)
  10 * min (max k 10 - min k 10) (max (k + 1) 10 - min (k + 1) 10)

/-- The total score (R295). -/
def totalPenalty (n : Nat) (t : Grid) : Nat := runsPenalty n t + blocksPenalty n t + windowsPenalty n t + balancePenalty n t

/-! ### Invariants -/

/-- The data path (R23, R26, R32): each register and buffer agrees with the stage. -/
structure DataInv (s : State) : Prop where
  rom : s.rom = Rom.standard
  textDepth : s.text.length ≤ 2048
  tierZero : s.ds = .text ↔ s.tier = 0
  tierMax : s.tier ≤ 40
  bitsText : s.ds = .text → s.bits = []
  bitsTiered : s.ds = .tiered → s.bits.length ≤ s.bitCapacity ∧ s.bits.length % 8 = 0
  bitsPadded : 2 ≤ s.ds.code → s.bits.length = s.bitCapacity
  noBlocks : s.ds.code < 3 → s.nblk = 0 ∧ s.d = [] ∧ s.e = []
  blockCount : 3 ≤ s.ds.code → s.nblk = s.row.blocks ∧ s.e.length = s.row.blocks
  blockLens : 3 ≤ s.ds.code → s.d.map List.length = (List.range s.row.blocks).map (blockLen s.row)
  eccLens : ∀ o ∈ s.e, ∀ ws ∈ o, ws.length = s.row.ec
  evcnt : s.evcnt = s.e.countP (·.isSome)
  splitOpen : s.ds = .split → s.evcnt < s.nblk
  eccClosed : 4 ≤ s.ds.code → s.evcnt = s.nblk
  finalNone : s.ds ≠ .final → s.final = []
  finalLen : s.ds = .final → s.final.length = 8 * s.row.tc + s.row.rem

/-- The matrix path (R24, R26, R27, R32): sizes, stages and validity marks agree, and a grid in use is square. -/
structure MatrixInv (s : State) : Prop where
  rom : s.rom = Rom.standard
  tier : s.ds ≠ .text → 1 ≤ s.tier ∧ s.tier ≤ 40
  sizeZero : s.ms = .none → s.size = 0
  allocated : s.ms ≠ .none → s.ds ≠ .text ∧ s.size = 21 + 4 * (s.tier - 1)
  gridG : s.ms ≠ .none → s.g.wf s.size = true
  gridR : s.ms ≠ .none → s.r.wf s.size = true
  gridT : s.tv = true → s.t.wf s.size = true
  gridO : s.ms = .masked → s.o.wf s.size = true
  placed : 8 ≤ s.ms.code → s.ds = .final
  trial : s.tv = true → 8 ≤ s.ms.code
  noTrial : s.tv = false → s.tmask = 0
  notMasked : s.ms ≠ .masked → s.best = 0 ∧ s.bestScore = 0
  scored : ∀ k, s.sv k = true → s.tv = true
  masked : s.ms = .masked → s.tv = true ∧ ∀ k, s.sv k = true
  notStamped : s.ms.code < 4 → s.nstamp = 0

/-- The fault registers (R26, R27, R356): `FLT` says that there is a first fault, and nothing is recorded without one. -/
structure FaultInv (s : State) : Prop where
  flt : s.flt = s.err.isSome
  noRecord : s.err = none → s.errInfo = 0 ∧ s.errCmd = 0

/-- The polynomial registers hold at most 256 coefficients (R30). -/
structure PolyInv (s : State) : Prop where
  pa : s.poly.pa.length ≤ 256
  pb : s.poly.pb.length ≤ 256
  pq : s.poly.pq.length ≤ 256
  pr : s.poly.pr.length ≤ 256

/-- The locator patterns (R266): from step 1 on in G, and in T and O where they are valid; their cells stay reserved. -/
structure LocatorInv (s : State) : Prop where
  matrix : MatrixInv s
  reserved : 2 ≤ s.ms.code → ∀ x y b, locatorAt s.size x y = some b → s.r.get x y = true
  inG : 2 ≤ s.ms.code → ∀ x y b, locatorAt s.size x y = some b → s.g.get x y = b
  inT : s.tv = true → ∀ x y b, locatorAt s.size x y = some b → s.t.get x y = b
  inO : s.ms = .masked → ∀ x y b, locatorAt s.size x y = some b → s.o.get x y = b

/-- The cells the core never writes (R8, R267, R268): separators, format and version areas, light in every grid, reserved
once step 6 is done. -/
structure BlankInv (s : State) : Prop where
  matrix : MatrixInv s
  separators : 3 ≤ s.ms.code → ∀ x y, isSeparator s.size x y = true → s.r.get x y = true
  reserved : 7 ≤ s.ms.code → ∀ x y, isBlank s.tier s.size x y = true → s.r.get x y = true
  inG : 1 ≤ s.ms.code → ∀ x y, isBlank s.tier s.size x y = true → s.g.get x y = false
  inT : s.tv = true → ∀ x y, isBlank s.tier s.size x y = true → s.t.get x y = false
  inO : s.ms = .masked → ∀ x y, isBlank s.tier s.size x y = true → s.o.get x y = false

/-- The canonical form of the buffers (R11, R32): no buffer is deeper than its depth, and a grid in use is exactly SIZE
columns of SIZE cells. -/
def memoryWf (s : State) : Bool :=
  s.text.length ≤ Config.textDepth && s.bits.length ≤ Config.bitsDepth && s.final.length ≤ Config.finalDepth &&
  s.d.length ≤ Config.maxBlk && s.d.all (fun b => b.length ≤ Config.maxDw) &&
  s.e.length ≤ Config.maxBlk && s.e.all (fun o => (o.getD []).length ≤ Config.maxEc) &&
  s.poly.pa.length ≤ Config.polyDepth && s.poly.pb.length ≤ Config.polyDepth &&
  s.poly.pq.length ≤ Config.polyDepth && s.poly.pr.length ≤ Config.polyDepth &&
  s.size ≤ Config.maxSide && s.g.wf s.size && s.r.wf s.size &&
  (!s.tv || s.t.wf s.size) && (s.ms != .masked || s.o.wf s.size)

end Sys2Proof.Safety
end

