-- ==== Sys2Proof/Certificates/Slice0/Obligations.lean ====
section
/-! DEFINITION. The statements about the core, from the numbered rules of spec/.  `live` is a job without a fault,
`ok v` the response of a command that completes, `trapped c info s` the state fault entry leaves (Safety.lean).  A
statement that gives the next state as the old one with some fields changed says with it that every other field, the
buffers and grids among them, is as before. -/

section Statements

open Sys2Proof Sys2Proof.Machine Sys2Proof.Safety

/-! ### Encoding -/

/-- R110, R111, R113: decoding the encoding of a command, with every operand at every value, gives it back; and a word that
decodes has no bit the command does not determine. -/
def Obligations.DecodeEncodeRoundTrip : Prop :=
  (∀ i : Instr, decode (encode i) = .ok i) ∧ ∀ (w : Word) (i : Instr), decode w = .ok i → encode i = w

/-- R114, R115: which words are commands, and why each other word is not. -/
def Obligations.DecodeAcceptsLegalWords : Prop :=
  ∀ w : Word,
    ((∃ i, decode w = .ok i) ↔
      ∃ f, WellFormed.formatTable.lookup (fieldOp w) = some f ∧ w &&& WellFormed.mustBeZero f = 0) ∧
    (decode w = .error .mustBeZeroBit ↔
      ∃ f, WellFormed.formatTable.lookup (fieldOp w) = some f ∧ w &&& WellFormed.mustBeZero f ≠ 0) ∧
    (decode w = .error .unlistedOpcode ↔
      (0x05 ≤ (fieldOp w).toNat ∧ (fieldOp w).toNat ≤ 0x0F) ∨ (0x19 ≤ (fieldOp w).toNat ∧ (fieldOp w).toNat ≤ 0x1F) ∨
      (0x24 ≤ (fieldOp w).toNat ∧ (fieldOp w).toNat ≤ 0x2F) ∨ (0x39 ≤ (fieldOp w).toNat ∧ (fieldOp w).toNat ≤ 0x3F) ∨
      (0x47 ≤ (fieldOp w).toNat ∧ (fieldOp w).toNat ≤ 0x4F) ∨ (0x5B ≤ (fieldOp w).toNat ∧ (fieldOp w).toNat ≤ 0x5F) ∨
      0x69 ≤ (fieldOp w).toNat)

/-- Words written out in the examples of the command rules, one of each format and family at least. -/
def Obligations.SampleWordsDecode : Prop :=
  decode 0x00000000 = .ok .nop ∧ decode 0x040C0000 = .ok (.tblRd 12 0 0) ∧ decode 0x04070902 = .ok (.tblRd 7 9 2) ∧
  decode 0x10480000 = .ok (.txtPush 0x48) ∧ decode 0x11000000 = .ok (.txtRd 0) ∧ decode 0x18000001 = .ok (.bitsRdb 0 1) ∧
  decode 0x22028000 = .ok (.gfMul 2 128) ∧ decode 0x31001200 = .ok (.pPush 0 0x12) ∧
  decode 0x38010300 = .ok (.pMov 1 3) ∧ decode 0x45020F00 = .ok (.rsRdd 2 15) ∧
  decode 0x5A03080D = .ok (.gridRd 3 8 13) ∧ decode 0x60040201 = .ok (.mkBit 4 2 1) ∧
  decode 0x05000000 = .error .unlistedOpcode ∧ decode 0x12000100 = .error .mustBeZeroBit

/-! ### The step -/

/-- R19, R25, R42: a word that decodes is accepted (counted, latched, taken from the input) and its command executed. -/
def Obligations.StepRunsDecodedCommand : Prop :=
  ∀ (s : State) (w : Word) (rest : List Input) (i : Instr), s.input = .command w :: rest → decode w = .ok i →
    step s = exec i { s with cc := s.cc + 1, cmd := w, input := rest }

/-- R115, R353, R357, R359: an illegal word in a live job, and the three orders of the checks in a dead one. -/
def Obligations.IllegalWordFaults : Prop :=
  ∀ (s : State) (w : Word) (rest : List Input), s.input = .command w :: rest →
    (live s → decode w = .error .unlistedOpcode →
      step s = .next (trapped .illegalCommand 1 { s with cc := s.cc + 1, cmd := w, input := rest })) ∧
    (live s → decode w = .error .mustBeZeroBit →
      step s = .next (trapped .illegalCommand 2 { s with cc := s.cc + 1, cmd := w, input := rest })) ∧
    (∀ e, s.flt = true → decode w = .error e → 3 ≤ (fieldOp w).toNat →
      step s = .next { s with cc := s.cc + 1, cmd := w, input := rest, resp := failed .sequenceError }) ∧
    (∀ e, s.flt = true → decode w = .error e → (fieldOp w).toNat ≤ 2 →
      step s = .next { s with cc := s.cc + 1, cmd := w, input := rest, resp := failed .illegalCommand })

/-- R19, R390, R392: with nothing presented nothing changes; the reset input, also in the middle of a command, leaves the
state after reset and no response.  That the list of what is presented survives a reset is the model's (log entry 10). -/
def Obligations.StepWithoutCommand : Prop :=
  ∀ (s : State) (w : Word) (rest : List Input),
    (s.input = [] → step s = .next s) ∧
    (s.input = .reset :: rest → step s = .next { State.reset with input := rest }) ∧
    (s.input = .resetDuring w :: rest → step s = .next { State.reset with input := rest })

/-- R390, R26, R27: the values after reset, and that JOB.NEW leaves the same state but `CC` and the channels. -/
def Obligations.ResetValues : Prop :=
  State.reset.cc = 0 ∧ State.reset.ds.code = 0 ∧ State.reset.ms.code = 0 ∧
  State.reset.status = 0x00000001 ∧
  State.reset.err = none ∧ State.reset.errInfo = 0 ∧ State.reset.errCmd = 0 ∧
  State.reset.len = 0 ∧ State.reset.tier = 0 ∧ State.reset.size = 0 ∧ State.reset.blen = 0 ∧ State.reset.flen = 0 ∧
  State.reset.nblk = 0 ∧ State.reset.evcnt = 0 ∧ State.reset.tmask = 0 ∧ State.reset.best = 0 ∧
  State.reset.bestScore = 0 ∧ State.reset.nstamp = 0 ∧
  (∀ p ∈ polyRegs State.reset, p.length = 0) ∧
  (∀ b, State.reset.ev b = false ∧ State.reset.dlen b = 0) ∧
  State.reset.rom = Rom.standard ∧
  (∀ s : State, s.rom = Rom.standard → exec .jobNew s =
    .next { State.reset with cc := s.cc, cmd := s.cmd, input := s.input, resp := ok 0 })

/-- R43: exactly one response for every accepted word, `ok = 0` with a fault code of R350 only. -/
def Obligations.EveryWordIsAnswered : Prop :=
  ∀ (s : State) (w : Word) (rest : List Input), s.input = .command w :: rest →
    ∃ t r, step s = .next t ∧ t.resp = some r ∧ t.input = rest ∧ t.cmd = w ∧
      (r.ok = false → ∃ c : FaultCode, r.val = zext32 c.code)

/-- R25: the command counter. -/
def Obligations.CommandCounter : Prop :=
  (∀ (s t : State) (w : Word) (rest : List Input), s.input = .command w :: rest → step s = .next t →
    t.cc = s.cc + 1) ∧
  (∀ (s t : State) (rest : List Input), s.input = .reset :: rest → step s = .next t → t.cc = 0) ∧
  (∀ s : State, exec (.srRd 14) s = .next { s with resp := some ⟨true, s.cc⟩ }) ∧
  (∀ s : State, ∃ t, exec .jobNew s = .next t ∧ t.cc = s.cc ∧ t.rom = s.rom ∧
    { t with cc := 0, rom := Rom.standard, cmd := 0, input := [], resp := none } = State.reset)

/-! ### Faults and the dead job -/

/-- R357: a dead job refuses every command but NOP, JOB.NEW and SR.RD, and nothing changes. -/
def Obligations.DeadJobRefuses : Prop :=
  ∀ (i : Instr) (s : State), s.flt = true → isExempt i = false →
    exec i s = .next { s with resp := failed .sequenceError }

/-- R357, R358, R359: what the three exempt commands do in a dead job; the first fault's record is kept until JOB.NEW. -/
def Obligations.DeadJobExemptCommands : Prop :=
  ∀ s : State, s.flt = true →
    exec .nop s = .next { s with resp := ok 0 } ∧
    (∀ a : Byte, a.toNat ≤ 15 → ∃ v, exec (.srRd a) s = .next { s with resp := ok v }) ∧
    (∀ a : Byte, 15 < a.toNat → exec (.srRd a) s = .next { s with resp := failed .rangeError }) ∧
    (∃ t, exec .jobNew s = .next t ∧ t.flt = false ∧ t.err = none ∧ t.errInfo = 0 ∧ t.errCmd = 0 ∧ t.resp = ok 0)

/-- R355, R356, R361: fault entry writes the fault registers and nothing else.  A command that faults leaves fault entry on
the state that its completed constituents, executed one by one, leave: there are none for a command that is no macro, and
none for a macro command that fails its own check; else they are those before the constituent `j` that faults, and what is
left is what `j` alone leaves there. -/
def Obligations.FaultEntryFrame : Prop :=
  ∀ (i : Instr) (s t : State) (r : Response), live s → exec i s = .next t → t.resp = some r → r.ok = false →
    (∃ (before : List Instr) (u : State) (c : FaultCode) (info : Nat),
      (before = [] ∨ ∃ j after, constituents s i = before ++ j :: after ∧ exec j u = .next t) ∧
      execAll before s = some u ∧ u.cmd = s.cmd ∧ u.cc = s.cc ∧ t = trapped c info u ∧ r.val = zext32 c.code) ∧
    (isMacro i = false → ∃ (c : FaultCode) (info : Nat), t = trapped c info s)

/-- R351: a command raises only the faults its row of the table lists. -/
def Obligations.RaisesOnlyListedFaults : Prop :=
  ∀ (i : Instr) (s t : State) (c : FaultCode), live s → exec i s = .next t → t.resp = failed c → mayRaise c i = true

/-- R395: a command at the wrong stage faults with SequenceError and info `DS + 16*MS`, writing nothing else; a command
that is no macro and at the right stage never does.  Premises: the operands are in their static ranges, and for RS.SYN and
RS.RDE the block number too, which their rules check in between. -/
def Obligations.WrongStageFaults : Prop :=
  ∀ (i : Instr) (s : State), live s → i.wellFormed = true → blockOk s i = true →
    (stageOk s i = false → exec i s = .next (trapped .sequenceError (s.ds.code + 16 * s.ms.code) s)) ∧
    (stageOk s i = true → isMacro i = false → ∀ t, exec i s = .next t → t.resp ≠ failed .sequenceError)

/-- R112, R116: an operand outside the range its rule allows whatever the state is no illegal word: it decodes, and
raises RangeError with the operand as info. -/
def Obligations.OutOfRangeOperandFaults : Prop :=
  ∀ (i : Instr) (s : State) (v : Nat), live s → stageOk s i = true → offending i = some v →
    decode (encode i) = .ok i ∧ exec i s = .next (trapped .rangeError v s)

/-! ### Whole-machine frames -/

/-- R23, R24: the sequencers never decrease within a job. -/
def Obligations.StagesNeverDecrease : Prop :=
  ∀ (i : Instr) (s t : State), i ≠ .jobNew → exec i s = .next t →
    s.ds.code ≤ t.ds.code ∧ s.ms.code ≤ t.ms.code

/-- R88: a read that completes changes nothing but the response and gives the same value when repeated. -/
def Obligations.ReadsHaveNoSideEffects : Prop :=
  ∀ (i : Instr) (s t : State) (v : Word), isRead i = true → exec i s = .next t → t.resp = some ⟨true, v⟩ →
    t = { s with resp := some ⟨true, v⟩ } ∧ exec i t = .next t

/-- R34, R80: each space is written by the commands R80 lists for it, by the macro commands that execute one of these
(R262, R263, R333, R361), E by RS.SPLIT clearing its marks too (R223), every space by JOB.NEW discarding it (R331), and by
no other command; the ROM by none. -/
def Obligations.WritesOnlyItsSpaces : Prop :=
  ∀ (i : Instr) (s t : State), exec i s = .next t →
    (∀ sp : Space, mayWrite i sp = false → sameOn s t sp) ∧ t.rom = s.rom

/-! ### System commands -/

/-- R330, R331: NOP and JOB.NEW complete in every state. -/
def Obligations.NopAndJobNew : Prop :=
  decode 0x00000000 = .ok .nop ∧ decode 0x01000000 = .ok .jobNew ∧
  ∀ s : State,
    exec .nop s = .next { s with resp := ok 0 } ∧
    exec .jobNew s =
      .next { State.reset with rom := s.rom, cc := s.cc, cmd := s.cmd, input := s.input, resp := ok 0 }

/-- R26, R27, R332: what SR.RD answers for each register, in a live and in a dead job; `STATUS` field by field. -/
def Obligations.StatusRegisters : Prop :=
  (∀ a : Byte, decode (0x02#8 ++ a ++ 0#8 ++ 0#8) = .ok (.srRd a)) ∧
  ∀ s : State,
    (∃ v : Word, exec (.srRd 0) s = .next { s with resp := some ⟨true, v⟩ } ∧
      v.getLsbD 0 = s.gfv ∧ v.getLsbD 1 = s.flt ∧ v.getLsbD 2 = s.tv ∧ v.getLsbD 3 = (s.ms == .masked) ∧
      v.extractLsb' 4 4 = BitVec.ofNat 4 s.ds.code ∧ v.extractLsb' 8 4 = BitVec.ofNat 4 s.ms.code ∧
      (∀ k : MaskIdx, v.getLsbD (12 + k.val) = s.score[k].isSome) ∧ v.extractLsb' 20 12 = 0) ∧
    exec (.srRd 1) s = .next { s with resp := ok (match s.err with | none => 0 | some c => c.code) } ∧
    exec (.srRd 2) s = .next { s with resp := some ⟨true, s.errInfo⟩ } ∧
    exec (.srRd 3) s = .next { s with resp := some ⟨true, s.errCmd⟩ } ∧
    exec (.srRd 4) s = .next { s with resp := ok s.text.length } ∧
    exec (.srRd 5) s = .next { s with resp := ok s.tier } ∧
    exec (.srRd 6) s = .next { s with resp := ok s.size } ∧
    exec (.srRd 7) s = .next { s with resp := ok s.bits.length } ∧
    exec (.srRd 8) s = .next { s with resp := ok s.final.length } ∧
    exec (.srRd 9) s = .next { s with resp := ok s.nblk } ∧
    exec (.srRd 10) s = .next { s with resp := ok s.evcnt } ∧
    exec (.srRd 11) s = .next { s with resp := ok s.tmask.val } ∧
    exec (.srRd 12) s = .next { s with resp := ok s.best.val } ∧
    exec (.srRd 13) s = .next { s with resp := some ⟨true, s.bestScore⟩ } ∧
    exec (.srRd 14) s = .next { s with resp := some ⟨true, s.cc⟩ } ∧
    exec (.srRd 15) s = .next { s with resp := ok s.nstamp } ∧
    (∀ a : Byte, 15 < a.toNat → live s → exec (.srRd a) s = .next (trapped .rangeError a.toNat s)) ∧
    (∀ a : Byte, 15 < a.toNat → s.flt = true → exec (.srRd a) s = .next { s with resp := failed .rangeError })

/-- R334: TBL.RD at each field of an allowed tier, and its faults in their order. -/
def Obligations.TableRead : Prop :=
  ∀ (s : State) (a b c : Byte), live s →
    decode (0x04#8 ++ a ++ b ++ c) = .ok (.tblRd a b c) ∧
    (1 ≤ a.toNat → a.toNat ≤ 40 →
      (∀ f v, [s.rom.row a.toNat |>.cap, (s.rom.row a.toNat).td, (s.rom.row a.toNat).ec, (s.rom.row a.toNat).g1b,
          (s.rom.row a.toNat).g1w, (s.rom.row a.toNat).g2b, (s.rom.row a.toNat).g2w, (s.rom.row a.toNat).rem,
          (s.rom.row a.toNat).al.length][f]? = some v → b.toNat = f → c = 0 →
        exec (.tblRd a b c) s = .next { s with resp := ok v }) ∧
      (∀ v, b = 9 → (s.rom.row a.toNat).al[c.toNat]? = some v →
        exec (.tblRd a b c) s = .next { s with resp := ok v }) ∧
      (b = 10 → c = 0 → exec (.tblRd a b c) s = .next { s with resp := ok (s.rom.row a.toNat).side }) ∧
      (b = 11 → c = 0 → exec (.tblRd a b c) s = .next { s with resp := ok (s.rom.row a.toNat).cntW }) ∧
      (b = 9 → (s.rom.row a.toNat).al.length ≤ c.toNat →
        exec (.tblRd a b c) s = .next (trapped .rangeError c.toNat s)) ∧
      (b.toNat ≤ 11 → b ≠ 9 → c ≠ 0 → exec (.tblRd a b c) s = .next (trapped .rangeError c.toNat s)) ∧
      (11 < b.toNat → exec (.tblRd a b c) s = .next (trapped .rangeError b.toNat s))) ∧
    (¬ (1 ≤ a.toNat ∧ a.toNat ≤ 40) → exec (.tblRd a b c) s = .next (trapped .rangeError a.toNat s))

/-- R35, R38, R39: the relations every row of the per-tier table and of the coordinate table satisfies; R36, R37, R391: the
printed field tables are those the reset sequence builds, and inverse to each other. -/
def Obligations.RomTables : Prop :=
  Rom.standard.tiers.length = 40 ∧
  (∀ v ∈ List.range' 1 40,
    let row := Rom.standard.row v
    row.side = 21 + 4 * (v - 1) ∧ row.cntW = (if v < 10 then 8 else 16) ∧
    row.g1b * row.g1w + row.g2b * row.g2w = row.td ∧ row.cap = (8 * row.td - 4 - row.cntW) / 8 ∧
    (row.g2b = 0 ∧ row.g2w = 0 ∨ row.g2w = row.g1w + 1) ∧ row.rem ≤ 7 ∧
    (v < 40 → row.cap < (Rom.standard.row (v + 1)).cap) ∧
    (∀ c ∈ row.al, c % 2 = 0 ∧ 6 ≤ c ∧ c + 7 ≤ row.side) ∧
    (∀ i ∈ List.range row.al.length, i + 1 < row.al.length → row.al.getD i 0 + 12 ≤ row.al.getD (i + 1) 0)) ∧
  (Rom.standard.row 1).cap = 11 ∧ (Rom.standard.row 40).cap = 1663 ∧
  Rom.standard.gfExp = builtExp ∧ Rom.standard.gfLog = builtLog ∧
  Rom.standard.gfExp.length = 256 ∧ (0 : Byte) ∉ Rom.standard.gfExp ∧ (Rom.standard.gfExp.take 255).Nodup ∧
  (∀ v : Byte, v ≠ 0 → ∃ e, gfLog Rom.standard v = some e ∧ e.idx.toNat ≤ 254 ∧ gfExp Rom.standard e = v) ∧
  gfLog Rom.standard 0 = none

/-- R333, R361: ENCODE is its seven commands one by one; where one of them faults, ENCODE faults with it, on what the ones
before left. -/
def Obligations.EncodeIsItsSevenCommands : Prop :=
  decode 0x03000000 = .ok .encodeJob ∧
  ∀ s : State, live s →
    (¬ (s.ds = .text ∧ s.ms = .none) →
      exec .encodeJob s = .next (trapped .sequenceError (s.ds.code + 16 * s.ms.code) s)) ∧
    (s.ds = .text → s.ms = .none →
      (∀ t, execAll [.vsel, .bsb, .rsSplit, .rsEccAll, .rsIlv, .mxBuild, .mkTryall] s = some t →
        exec .encodeJob s = .next t ∧ t.resp = ok t.best.val) ∧
      (∀ before i after u t,
        [Instr.vsel, .bsb, .rsSplit, .rsEccAll, .rsIlv, .mxBuild, .mkTryall] = before ++ i :: after →
        execAll before s = some u → exec i u = .next t → t.resp.any (·.ok) = false →
        exec .encodeJob s = .next t))

/-- R333, R305, R352: with the spec's ROM, ENCODE completes for every text of at most 1663 bytes in a fresh job, at the
smallest tier that holds it, and O is the trial grid with the lowest score, the first of a tie; a longer text raises
CapacityExceeded. -/
def Obligations.EncodeSucceeds : Prop :=
  ∀ s : State, live s → s.rom = Rom.standard → s.ds = .text → s.ms = .none → s.bits = [] →
    (s.text.length ≤ 1663 →
      ∃ t, exec .encodeJob s = .next t ∧ t.resp = ok t.best.val ∧ live t ∧ t.ds = .final ∧ t.ms = .masked ∧
        t.text = s.text ∧ t.poly = s.poly ∧
        1 ≤ t.tier ∧ t.tier ≤ 40 ∧ t.size = 21 + 4 * (t.tier - 1) ∧
        s.text.length ≤ (Rom.standard.row t.tier).cap ∧
        (∀ v, 1 ≤ v → v < t.tier → (Rom.standard.row v).cap < s.text.length) ∧
        t.final.length = 8 * (Rom.standard.row t.tier).tc + (Rom.standard.row t.tier).rem ∧
        t.o = trialGrid t.best t.size t.g t.r ∧
        (∀ k : MaskIdx, gridScore t.rom t.size t.o ≤ gridScore t.rom t.size (trialGrid k t.size t.g t.r)) ∧
        (∀ k : MaskIdx, k < t.best → gridScore t.rom t.size t.o < gridScore t.rom t.size (trialGrid k t.size t.g t.r))) ∧
    (1663 < s.text.length → exec .encodeJob s = .next (trapped .capacityExceeded s.text.length s))

/-! ### Front end -/

/-- R140, R141: the words and the effects of the two text buffer commands. -/
def Obligations.TextCommands : Prop :=
  ∀ (s : State) (a : Byte) (k : Half), live s →
    decode (0x10#8 ++ a ++ 0#8 ++ 0#8) = .ok (.txtPush a) ∧ decode (0x11#8 ++ 0#8 ++ k) = .ok (.txtRd k) ∧
    (s.ds = .text → s.text.length < 2048 →
      exec (.txtPush a) s = .next { s with text := s.text ++ [a], resp := ok 0 }) ∧
    (s.ds ≠ .text → exec (.txtPush a) s = .next (trapped .sequenceError (s.ds.code + 16 * s.ms.code) s)) ∧
    (s.ds = .text → 2048 ≤ s.text.length → exec (.txtPush a) s = .next (trapped .rangeError s.text.length s)) ∧
    (∀ v, s.text[k.toNat]? = some v → exec (.txtRd k) s = .next { s with resp := ok v.toNat }) ∧
    (s.text[k.toNat]? = none → exec (.txtRd k) s = .next (trapped .rangeError k.toNat s))

/-- R142, R143: VSEL picks the smallest tier that holds the text; select_tier is monotonic. -/
def Obligations.VselPicksSmallestTier : Prop :=
  decode 0x12000000 = .ok .vsel ∧ selectTier Rom.standard 0 = 1 ∧ selectTier Rom.standard 11 = 1 ∧
  selectTier Rom.standard 12 = 2 ∧ selectTier Rom.standard 1663 = 40 ∧
  (∀ s : State, live s → s.rom = Rom.standard → s.ds = .text → s.text.length ≤ 1663 →
    ∃ v, 1 ≤ v ∧ v ≤ 40 ∧ s.text.length ≤ (Rom.standard.row v).cap ∧
      (∀ u, 1 ≤ u → u < v → (Rom.standard.row u).cap < s.text.length) ∧
      exec .vsel s = .next { s with tier := v, ds := .tiered, resp := ok v }) ∧
  (∀ s : State, live s → s.ds = .text → 1663 < s.text.length →
    exec .vsel s = .next (trapped .capacityExceeded s.text.length s)) ∧
  (∀ s : State, live s → s.ds ≠ .text →
    exec .vsel s = .next (trapped .sequenceError (s.ds.code + 16 * s.ms.code) s)) ∧
  (∀ a b : Nat, a < b → b ≤ 1663 → selectTier Rom.standard a ≤ selectTier Rom.standard b)

/-- R144, R147, R148: a tier and data codewords straight from the host. -/
def Obligations.DirectEntryCommands : Prop :=
  ∀ (s : State) (a : Byte), live s →
    decode (0x13#8 ++ a ++ 0#8 ++ 0#8) = .ok (.vset a) ∧ decode (0x15#8 ++ a ++ 0#8 ++ 0#8) = .ok (.dcwPush a) ∧
    decode 0x16000000 = .ok .dcwSeal ∧
    (s.ds = .text → 1 ≤ a.toNat → a.toNat ≤ 40 →
      exec (.vset a) s = .next { s with tier := a.toNat, ds := .tiered, resp := ok a.toNat }) ∧
    (s.ds ≠ .text → exec (.vset a) s = .next (trapped .sequenceError (s.ds.code + 16 * s.ms.code) s)) ∧
    (s.ds = .text → ¬ (1 ≤ a.toNat ∧ a.toNat ≤ 40) → exec (.vset a) s = .next (trapped .rangeError a.toNat s)) ∧
    (s.ds = .tiered → s.bits.length + 8 ≤ 8 * (s.rom.row s.tier).td →
      exec (.dcwPush a) s = .next { s with
        bits := s.bits ++ [a.getLsbD 7, a.getLsbD 6, a.getLsbD 5, a.getLsbD 4, a.getLsbD 3, a.getLsbD 2, a.getLsbD 1,
          a.getLsbD 0],
        resp := ok 0 }) ∧
    (s.ds ≠ .tiered → exec (.dcwPush a) s = .next (trapped .sequenceError (s.ds.code + 16 * s.ms.code) s)) ∧
    (s.ds = .tiered → 8 * (s.rom.row s.tier).td < s.bits.length + 8 →
      exec (.dcwPush a) s = .next (trapped .rangeError s.bits.length s)) ∧
    (s.ds = .tiered → s.bits.length = 8 * (s.rom.row s.tier).td →
      exec .dcwSeal s = .next { s with ds := .padded, resp := ok s.bits.length }) ∧
    (s.ds ≠ .tiered → exec .dcwSeal s = .next (trapped .sequenceError (s.ds.code + 16 * s.ms.code) s)) ∧
    (s.ds = .tiered → s.bits.length ≠ 8 * (s.rom.row s.tier).td →
      exec .dcwSeal s = .next (trapped .lengthError s.bits.length s))

/-- R145, R146: BSB builds mode, count, text and terminator, then fills the tier exactly with `0xEC`, `0x11` in turn; a
text the tier cannot hold raises InternalTableError 2, the wrong stage (R146's own check, at any tier) SequenceError.  That
the terminator always has its full four bits is the inference R146 draws from R38 in its corner case (1). -/
def Obligations.BsbBuildsPaddedStream : Prop :=
  ∀ s : State, live s →
    decode 0x14000000 = .ok .bsb ∧
    (¬ (s.ds = .tiered ∧ s.bits = []) → exec .bsb s = .next (trapped .sequenceError (s.ds.code + 16 * s.ms.code) s)) ∧
    (s.rom = Rom.standard → 1 ≤ s.tier → s.tier ≤ 40 →
      (s.ds = .tiered → s.bits = [] → s.text.length ≤ (Rom.standard.row s.tier).cap →
        ∃ out : List Bool,
          exec .bsb s = .next { s with bits := out, ds := .padded, resp := ok (8 * (Rom.standard.row s.tier).td) } ∧
          out.length = 8 * (Rom.standard.row s.tier).td ∧
          out.take (4 + (Rom.standard.row s.tier).cntW + 8 * s.text.length + 4) =
            [false, true, false, false] ++ bitsOf (if s.tier < 10 then 8 else 16) s.text.length ++
              s.text.flatMap bits8 ++ [false, false, false, false] ∧
          (∀ k, (4 + (Rom.standard.row s.tier).cntW + 8 * s.text.length + 4) / 8 + k < (Rom.standard.row s.tier).td →
            codewordAt out ((4 + (Rom.standard.row s.tier).cntW + 8 * s.text.length + 4) / 8 + k) =
              if k % 2 = 0 then 0xEC else 0x11)) ∧
      (s.ds = .tiered → s.bits = [] → (Rom.standard.row s.tier).cap < s.text.length →
        exec .bsb s = .next (trapped .internalTableError 2 s)))

/-- R83, R149, R150: one bit, or the eight bits of one codeword with the earliest the most significant (R81), of BITS or
FINAL; the selector is checked before the index. -/
def Obligations.BitBufferReads : Prop :=
  ∀ (s : State) (a : Byte) (k : Half), live s →
    decode (0x17#8 ++ a ++ k) = .ok (.bitsRd a k) ∧ decode (0x18#8 ++ a ++ k) = .ok (.bitsRdb a k) ∧
    (1 < a.toNat →
      exec (.bitsRd a k) s = .next (trapped .rangeError a.toNat s) ∧
      exec (.bitsRdb a k) s = .next (trapped .rangeError a.toNat s)) ∧
    ∀ seq : List Bool, (a = 0 ∧ seq = s.bits ∨ a = 1 ∧ seq = s.final) →
      (∀ b, seq[k.toNat]? = some b → exec (.bitsRd a k) s = .next { s with resp := ok b.toNat }) ∧
      (seq.length ≤ k.toNat → exec (.bitsRd a k) s = .next (trapped .rangeError k.toNat s)) ∧
      (8 * k.toNat + 8 ≤ seq.length →
        ∃ v : Byte, exec (.bitsRdb a k) s = .next { s with resp := ok v.toNat } ∧
          ∀ j, j < 8 → seq[8 * k.toNat + j]? = some (v.getLsbD (7 - j))) ∧
      (seq.length < 8 * k.toNat + 8 → exec (.bitsRdb a k) s = .next (trapped .rangeError k.toNat s))

/-! ### Field unit -/

/-- R172, R173, R174, R176 to R179: the field commands, compared with doubling and carry-less multiplication modulo
`0x11D` in the place of the tables. -/
def Obligations.FieldCommands : Prop :=
  ∀ (s : State) (a b : Byte), live s → s.rom = Rom.standard →
    decode (0x20#8 ++ a ++ 0#8 ++ 0#8) = .ok (.gfExp a) ∧ decode (0x21#8 ++ a ++ 0#8 ++ 0#8) = .ok (.gfLog a) ∧
    decode (0x22#8 ++ a ++ b ++ 0#8) = .ok (.gfMul a b) ∧ decode (0x23#8 ++ a ++ b ++ 0#8) = .ok (.gfAdd a b) ∧
    exec (.gfExp a) s = .next { s with resp := ok (alphaPow a.toNat) } ∧
    (a ≠ 0 → ∃ e, e ≤ 254 ∧ alphaPow e = a.toNat ∧ exec (.gfLog a) s = .next { s with resp := ok e }) ∧
    exec (.gfLog 0) s = .next (trapped .fieldLookupFailure 0 s) ∧
    exec (.gfMul a b) s = .next { s with resp := ok (carrylessMul a.toNat b.toNat) } ∧
    exec (.gfAdd a b) s = .next { s with resp := ok (a.toNat ^^^ b.toNat) }

/-- R171, R175: the laws of the field. -/
def Obligations.FieldLaws : Prop :=
  let mul := gfMul Rom.standard
  (∀ a b : Byte, mul a b = mul b a) ∧ (∀ a b c : Byte, mul (mul a b) c = mul a (mul b c)) ∧
  (∀ a b c : Byte, mul a (gfAdd b c) = gfAdd (mul a b) (mul a c)) ∧
  (∀ a : Byte, mul a 1 = a ∧ mul a 0 = 0 ∧ gfAdd a a = 0 ∧ gfAdd a 0 = a) ∧
  (∀ a : Byte, a ≠ 0 → mul a (gfInv Rom.standard a) = 1)

/-! ### Polynomial unit -/

/-- R197 to R200, R205: the register commands on each of the four registers, and their faults. -/
def Obligations.PolyRegisterCommands : Prop :=
  ∀ (s : State) (a b : Byte), live s →
    decode (0x30#8 ++ a ++ 0#8 ++ 0#8) = .ok (.pClr a) ∧ decode (0x31#8 ++ a ++ b ++ 0#8) = .ok (.pPush a b) ∧
    decode (0x32#8 ++ a ++ b ++ 0#8) = .ok (.pRd a b) ∧ decode (0x33#8 ++ a ++ 0#8 ++ 0#8) = .ok (.pLen a) ∧
    decode (0x38#8 ++ a ++ b ++ 0#8) = .ok (.pMov a b) ∧
    (∀ p, (polyRegs s)[a.toNat]? = some p →
      (∃ t, exec (.pClr a) s = .next t ∧ t = { s with poly := t.poly, resp := ok 0 } ∧
        polyRegs t = (polyRegs s).set a.toNat []) ∧
      (p.length < 256 → ∃ t, exec (.pPush a b) s = .next t ∧
        t = { s with poly := t.poly, resp := ok (p.length + 1) } ∧
        polyRegs t = (polyRegs s).set a.toNat (p ++ [b])) ∧
      (256 ≤ p.length → exec (.pPush a b) s = .next (trapped .rangeError 256 s)) ∧
      (∀ v, p[b.toNat]? = some v → exec (.pRd a b) s = .next { s with resp := ok v.toNat }) ∧
      (p.length ≤ b.toNat → exec (.pRd a b) s = .next (trapped .rangeError b.toNat s)) ∧
      exec (.pLen a) s = .next { s with resp := ok p.length } ∧
      (∀ q, (polyRegs s)[b.toNat]? = some q → ∃ t, exec (.pMov a b) s = .next t ∧
        t = { s with poly := t.poly, resp := ok q.length } ∧ polyRegs t = (polyRegs s).set a.toNat q) ∧
      (4 ≤ b.toNat → exec (.pMov a b) s = .next (trapped .rangeError b.toNat s))) ∧
    (4 ≤ a.toNat →
      exec (.pClr a) s = .next (trapped .rangeError a.toNat s) ∧
      exec (.pPush a b) s = .next (trapped .rangeError a.toNat s) ∧
      exec (.pRd a b) s = .next (trapped .rangeError a.toNat s) ∧
      exec (.pLen a) s = .next (trapped .rangeError a.toNat s) ∧
      exec (.pMov a b) s = .next (trapped .rangeError a.toNat s))

/-- R192, R201: every coefficient of the product is the sum of the products of the coefficients it comes from. -/
def Obligations.PMulIsTheProduct : Prop :=
  ∀ s : State, live s → s.rom = Rom.standard →
    decode 0x34000000 = .ok .pMul ∧
    (s.poly.pa ≠ [] → s.poly.pb ≠ [] → s.poly.pa.length + s.poly.pb.length - 1 ≤ 256 →
      ∃ p : Poly,
        exec .pMul s = .next { s with poly := { s.poly with pr := p }, resp := ok p.length } ∧
        p.length = s.poly.pa.length + s.poly.pb.length - 1 ∧
        ∀ k, k < p.length → (p.getD k 0).toNat = productCoeff s.poly.pa s.poly.pb k) ∧
    ((s.poly.pa = [] ∨ s.poly.pb = []) →
      exec .pMul s = .next { s with poly := { s.poly with pr := [] }, resp := ok 0 }) ∧
    (s.poly.pa ≠ [] → s.poly.pb ≠ [] → 256 < s.poly.pa.length + s.poly.pb.length - 1 →
      exec .pMul s = .next (trapped .rangeError (s.poly.pa.length + s.poly.pb.length - 1) s))

/-- R193, R202: quotient times divisor plus remainder is the dividend, and the lengths are fixed by the operands' lengths;
the three corner cases of the divisor and of a short dividend. -/
def Obligations.PDivIsLongDivision : Prop :=
  ∀ s : State, live s → s.rom = Rom.standard →
    decode 0x35000000 = .ok .pDiv ∧
    (s.poly.pb ≠ [] → s.poly.pb.headD 0 ≠ 0 →
      ∃ q r : Poly,
        exec .pDiv s = .next { s with poly := { s.poly with pq := q, pr := r }, resp := ok q.length } ∧
        q.length = s.poly.pa.length + 1 - s.poly.pb.length ∧ r.length = s.poly.pb.length - 1 ∧
        (s.poly.pa.length < s.poly.pb.length →
          r = List.replicate (s.poly.pb.length - 1 - s.poly.pa.length) 0 ++ s.poly.pa) ∧
        (s.poly.pb.length ≤ s.poly.pa.length → ∀ k, k < s.poly.pa.length →
          (s.poly.pa.getD k 0).toNat =
            productCoeff q s.poly.pb k ^^^ (if k < q.length then 0 else (r.getD (k - q.length) 0).toNat))) ∧
    (s.poly.pb = [] → exec .pDiv s = .next (trapped .rangeError 0 s)) ∧
    (s.poly.pb ≠ [] → s.poly.pb.headD 0 = 0 → exec .pDiv s = .next (trapped .fieldLookupFailure 0 s))

/-- R194, R203: P.GEN leaves the monic polynomial of the given degree whose roots are `alpha^0` to `alpha^(n-1)`. -/
def Obligations.PGenBuildsGenerator : Prop :=
  ∀ (s : State) (a : Byte), live s → s.rom = Rom.standard →
    decode (0x36#8 ++ a ++ 0#8 ++ 0#8) = .ok (.pGen a) ∧ ∃ g : Poly,
      exec (.pGen a) s = .next { s with poly := { s.poly with pr := g }, resp := ok (a.toNat + 1) } ∧
      g.length = a.toNat + 1 ∧ g.head? = some 1 ∧ ∀ i, i < a.toNat → valueAt g i = 0

/-- R195, R196, R204: P.SYN leaves the values of PA at `alpha^0` to `alpha^(n-1)`. -/
def Obligations.PSynEvaluates : Prop :=
  ∀ (s : State) (a : Byte), live s → s.rom = Rom.standard →
    decode (0x37#8 ++ a ++ 0#8 ++ 0#8) = .ok (.pSyn a) ∧ ∃ syn : List Byte,
      exec (.pSyn a) s = .next { s with poly := { s.poly with pr := syn }, resp := ok (if ∀ v ∈ syn, v = 0 then 1 else 0) } ∧
      syn.map BitVec.toNat = (List.range a.toNat).map (valueAt s.poly.pa)

/-! ### Reed-Solomon unit -/

/-- R220, R221, R223: RS.SPLIT slices the data codewords into blocks of the two groups, in order, each codeword once. -/
def Obligations.RsSplitSlicesTheStream : Prop :=
  ∀ s : State, live s →
    decode 0x40000000 = .ok .rsSplit ∧
    (s.ds = .padded → s.row.g1b * s.row.g1w + s.row.g2b * s.row.g2w = s.row.td →
      ∃ blocks : List (List Byte),
        exec .rsSplit s = .next { s with
          nblk := s.row.g1b + s.row.g2b, d := blocks, e := List.replicate (s.row.g1b + s.row.g2b) none, evcnt := 0,
          ds := .split, resp := ok (s.row.g1b + s.row.g2b) } ∧
        blocks.map List.length = List.replicate s.row.g1b s.row.g1w ++ List.replicate s.row.g2b s.row.g2w ∧
        blocks.flatten = (List.range s.row.td).map (codewordAt s.bits)) ∧
    (s.ds = .padded → s.row.g1b * s.row.g1w + s.row.g2b * s.row.g2w ≠ s.row.td →
      exec .rsSplit s = .next (trapped .internalTableError 1 s)) ∧
    (s.ds ≠ .padded → exec .rsSplit s = .next (trapped .sequenceError (s.ds.code + 16 * s.ms.code) s))

/-- R222, R224: RS.ECC computes the redundancy of one block by the loop R222 writes out, marks it, counts it, and closes
the stage with the last one. -/
def Obligations.RsEccComputesRedundancy : Prop :=
  ∀ (s : State) (a : Byte), live s → DataInv s →
    decode (0x41#8 ++ a ++ 0#8 ++ 0#8) = .ok (.rsEcc a) ∧
    (s.ds = .split ∨ s.ds = .eccDone → a.toNat < s.nblk →
      let count := if s.ev a.toNat then s.evcnt else s.evcnt + 1
      exec (.rsEcc a) s = .next { s with
        e := s.e.set a.toNat (some (eccLoop s.rom (s.d.getD a.toNat []) s.row.ec)), evcnt := count,
        ds := if count = s.nblk then .eccDone else s.ds, resp := ok count } ∧
      (eccLoop s.rom (s.d.getD a.toNat []) s.row.ec).length = s.row.ec) ∧
    (s.ds = .split ∨ s.ds = .eccDone → s.nblk ≤ a.toNat →
      exec (.rsEcc a) s = .next (trapped .rangeError a.toNat s)) ∧
    (s.ds ≠ .split → s.ds ≠ .eccDone →
      exec (.rsEcc a) s = .next (trapped .sequenceError (s.ds.code + 16 * s.ms.code) s))

/-- R196, R226: the codeword RS.ECC makes has every syndrome zero: RS.SYN right after it answers 1. -/
def Obligations.RsSynAfterEccIsZero : Prop :=
  ∀ (s t : State) (a : Byte), live s → DataInv s → (s.ds = .split ∨ s.ds = .eccDone) → a.toNat < s.nblk →
    exec (.rsEcc a) s = .next t →
    exec (.rsSyn a) t = .next { t with poly := { t.poly with pr := List.replicate t.row.ec 0 }, resp := ok 1 }

/-- R226, R228, R229: syndromes of a block, and reads of its data and redundancy codewords, with the faults in order. -/
def Obligations.RsBlockReads : Prop :=
  ∀ (s : State) (a b : Byte), live s → s.rom = Rom.standard →
    decode (0x43#8 ++ a ++ 0#8 ++ 0#8) = .ok (.rsSyn a) ∧ decode (0x45#8 ++ a ++ b ++ 0#8) = .ok (.rsRdd a b) ∧
    decode (0x46#8 ++ a ++ b ++ 0#8) = .ok (.rsRde a b) ∧
    (3 ≤ s.ds.code → a.toNat < s.nblk →
      (∀ v, (s.d.getD a.toNat [])[b.toNat]? = some v → exec (.rsRdd a b) s = .next { s with resp := ok v.toNat }) ∧
      ((s.d.getD a.toNat []).length ≤ b.toNat → exec (.rsRdd a b) s = .next (trapped .rangeError b.toNat s)) ∧
      (∀ ecc, s.e[a.toNat]? = some (some ecc) →
        (∃ syn : List Byte,
          exec (.rsSyn a) s =
            .next { s with poly := { s.poly with pr := syn }, resp := ok (if ∀ v ∈ syn, v = 0 then 1 else 0) } ∧
          syn.map BitVec.toNat = (List.range s.row.ec).map (valueAt (s.d.getD a.toNat [] ++ ecc))) ∧
        (b.toNat < s.row.ec → ∀ v, ecc[b.toNat]? = some v → exec (.rsRde a b) s = .next { s with resp := ok v.toNat }) ∧
        (s.row.ec ≤ b.toNat → exec (.rsRde a b) s = .next (trapped .rangeError b.toNat s))) ∧
      (s.ev a.toNat = false →
        exec (.rsSyn a) s = .next (trapped .sequenceError (s.ds.code + 16 * s.ms.code) s) ∧
        exec (.rsRde a b) s = .next (trapped .sequenceError (s.ds.code + 16 * s.ms.code) s))) ∧
    (3 ≤ s.ds.code → s.nblk ≤ a.toNat →
      exec (.rsRdd a b) s = .next (trapped .rangeError a.toNat s) ∧
      exec (.rsSyn a) s = .next (trapped .rangeError a.toNat s) ∧
      exec (.rsRde a b) s = .next (trapped .rangeError a.toNat s)) ∧
    (s.ds.code < 3 →
      exec (.rsRdd a b) s = .next (trapped .sequenceError (s.ds.code + 16 * s.ms.code) s) ∧
      exec (.rsSyn a) s = .next (trapped .sequenceError (s.ds.code + 16 * s.ms.code) s) ∧
      exec (.rsRde a b) s = .next (trapped .sequenceError (s.ds.code + 16 * s.ms.code) s))

/-- R225: RS.ECCALL is RS.ECC on every block in turn, and leaves every block done. -/
def Obligations.RsEccAllDoesEveryBlock : Prop :=
  ∀ s : State, live s → DataInv s →
    decode 0x42000000 = .ok .rsEccAll ∧
    (s.ds = .split ∨ s.ds = .eccDone →
      ∃ t u, exec .rsEccAll s = .next t ∧
        execAll ((List.range s.nblk).map fun b => .rsEcc (BitVec.ofNat 8 b)) s = some u ∧
        t = { u with resp := ok s.nblk } ∧ t.ds = .eccDone ∧ t.evcnt = s.nblk ∧ t.d = s.d ∧
        t.e = s.d.map fun block => some (eccLoop s.rom block s.row.ec)) ∧
    (s.ds ≠ .split → s.ds ≠ .eccDone →
      exec .rsEccAll s = .next (trapped .sequenceError (s.ds.code + 16 * s.ms.code) s))

/-- R227: where RS.ILV puts each codeword: data by position then block, the group 2 blocks alone at the last position, then
redundancy by position then block, then the remainder zeros. -/
def Obligations.RsIlvInterleaves : Prop :=
  ∀ s : State, live s → DataInv s →
    decode 0x44000000 = .ok .rsIlv ∧
    (s.ds = .eccDone →
      ∃ f : List Bool,
        exec .rsIlv s = .next { s with final := f, ds := .final, resp := ok f.length } ∧
        f.length = 8 * s.row.tc + s.row.rem ∧
        (∀ b i v, (s.d.getD b [])[i]? = some v →
          codewordAt f (if i < s.row.g1w then i * s.nblk + b else s.row.g1w * s.nblk + (b - s.row.g1b)) = v) ∧
        (∀ b ecc j v, s.e[b]? = some (some ecc) → ecc[j]? = some v →
          codewordAt f (s.row.td + j * s.nblk + b) = v) ∧
        f.drop (8 * s.row.tc) = List.replicate s.row.rem false) ∧
    (s.ds ≠ .eccDone → exec .rsIlv s = .next (trapped .sequenceError (s.ds.code + 16 * s.ms.code) s))

/-! ### Matrix builder -/

/-- R252, R253, R254: the blank grid, the three locator patterns, the separators, cell by cell. -/
def Obligations.MxAllocFindSep : Prop :=
  ∀ s : State, live s →
    decode 0x50000000 = .ok .mxAlloc ∧ decode 0x51000000 = .ok .mxFind ∧ decode 0x52000000 = .ok .mxSep ∧
    (¬ (1 ≤ s.ds.code ∧ s.ms = .none) → exec .mxAlloc s = .next (trapped .sequenceError (s.ds.code + 16 * s.ms.code) s)) ∧
    (s.ms ≠ .alloc → exec .mxFind s = .next (trapped .sequenceError (s.ds.code + 16 * s.ms.code) s)) ∧
    (s.ms ≠ .find → exec .mxSep s = .next (trapped .sequenceError (s.ds.code + 16 * s.ms.code) s)) ∧
    (1 ≤ s.ds.code → s.ms = .none → exec .mxAlloc s = .next { s with
      g := .tabulate s.row.side fun _ _ => false, r := .tabulate s.row.side fun _ _ => false,
      size := s.row.side, ms := .alloc, resp := ok s.row.side }) ∧
    (s.ms = .alloc → ∃ t, exec .mxFind s = .next t ∧
      t = { s with g := t.g, r := t.r, ms := .find, resp := ok 0 } ∧
      (GridReady s → ∀ x y, x < s.size → y < s.size →
        t.g.get x y = (locatorAt s.size x y).getD (s.g.get x y) ∧
        t.r.get x y = ((locatorAt s.size x y).isSome || s.r.get x y))) ∧
    (s.ms = .find → ∃ t, exec .mxSep s = .next t ∧ t = { s with r := t.r, ms := .sep, resp := ok 0 } ∧
      (GridReady s → ∀ x y, x < s.size → y < s.size →
        t.r.get x y = (isSeparator s.size x y || s.r.get x y)))

/-- R257, R258, R259: the timing strips, the dark module, the format and version areas, cell by cell. -/
def Obligations.MxTimingDarkFmt : Prop :=
  ∀ s : State, live s →
    decode 0x54000000 = .ok .mxTiming ∧ decode 0x55000000 = .ok .mxDark ∧ decode 0x56000000 = .ok .mxFmt ∧
    (s.ms ≠ .align → exec .mxTiming s = .next (trapped .sequenceError (s.ds.code + 16 * s.ms.code) s)) ∧
    (s.ms ≠ .timing → exec .mxDark s = .next (trapped .sequenceError (s.ds.code + 16 * s.ms.code) s)) ∧
    (s.ms ≠ .dark → exec .mxFmt s = .next (trapped .sequenceError (s.ds.code + 16 * s.ms.code) s)) ∧
    (s.ms = .align → ∃ t, exec .mxTiming s = .next t ∧
      t = { s with g := t.g, r := t.r, ms := .timing, resp := ok 0 } ∧
      (GridReady s → ∀ x y, x < s.size → y < s.size →
        t.g.get x y = (if isTiming s.size x y then (x + y) % 2 == 0 else s.g.get x y) ∧
        t.r.get x y = (isTiming s.size x y || s.r.get x y))) ∧
    (s.ms = .timing → ∃ t, exec .mxDark s = .next t ∧
      t = { s with g := t.g, r := t.r, ms := .dark, resp := ok 0 } ∧
      (GridReady s → ∀ x y, x < s.size → y < s.size →
        t.g.get x y = ((x == 8 && y == 4 * s.tier + 9) || s.g.get x y) ∧
        t.r.get x y = ((x == 8 && y == 4 * s.tier + 9) || s.r.get x y))) ∧
    (s.ms = .dark → ∃ t, exec .mxFmt s = .next t ∧ t = { s with r := t.r, ms := .fixed, resp := ok 0 } ∧
      (GridReady s → ∀ x y, x < s.size → y < s.size →
        t.r.get x y = (isFormat s.size x y || isVersion s.tier s.size x y || s.r.get x y)))

/-- R255, R256: with the locators and separators reserved, exactly the three candidates on the locators are skipped, and
every other pattern is stamped whole. -/
def Obligations.MxAlignStampsPatterns : Prop :=
  ∀ s : State, live s →
    decode 0x53000000 = .ok .mxAlign ∧
    (s.ms ≠ .sep → exec .mxAlign s = .next (trapped .sequenceError (s.ds.code + 16 * s.ms.code) s)) ∧
    (s.ms = .sep → ∃ t, exec .mxAlign s = .next t ∧
      t = { s with g := t.g, r := t.r, nstamp := t.nstamp, ms := .align, resp := ok t.nstamp } ∧
      (GridReady s →
        (∀ x y, x < s.size → y < s.size →
          s.r.get x y = ((locatorAt s.size x y).isSome || isSeparator s.size x y)) →
        t.nstamp = s.row.al.length ^ 2 - 3 ∧
        ∀ x y, x < s.size → y < s.size →
          t.g.get x y = (alignmentAt s.row.al s.size x y).getD (s.g.get x y) ∧
          t.r.get x y = ((alignmentAt s.row.al s.size x y).isSome || s.r.get x y)))

/-- R260: the traversal offers every unreserved cell outside column 6 once and no other, in column pairs from the right
edge, the sweep direction alternating, the right cell before the left. -/
def Obligations.ZigzagOrder : Prop :=
  ∀ (v : Nat) (r : Grid), 1 ≤ v → v ≤ 40 →
    let n := 21 + 4 * (v - 1)
    (∀ c : Cell, c ∈ zigzag n r ↔ c.1 < n ∧ c.2 < n ∧ c.1 ≠ 6 ∧ r.get c.1 c.2 = false) ∧
    (zigzag n r).Pairwise fun c c' => zigzagRank n c < zigzagRank n c'

/-- R261: MX.PLACE writes bit `i` of FINAL to cell `i` of the traversal, and no other cell; with column 6, the timing column,
reserved, every unreserved cell receives a bit; a length that does not match raises LengthError. -/
def Obligations.MxPlaceFillsFreeCells : Prop :=
  ∀ s : State, live s →
    decode 0x57000000 = .ok .mxPlace ∧
    (s.ms = .fixed → s.ds = .final → (zigzag s.size s.r).length = s.final.length →
      ∃ t, exec .mxPlace s = .next t ∧ t = { s with g := t.g, ms := .placed, resp := ok s.final.length } ∧
        (∀ c : Cell, c ∉ zigzag s.size s.r → t.g.get c.1 c.2 = s.g.get c.1 c.2) ∧
        (GridReady s → ∀ (i : Nat) (c : Cell) (b : Bool), (zigzag s.size s.r)[i]? = some c → s.final[i]? = some b →
          t.g.get c.1 c.2 = b) ∧
        (GridReady s → (∀ y, y < s.size → s.r.get 6 y = true) → ∀ x y, x < s.size → y < s.size → s.r.get x y = false →
          ∃ (i : Nat) (b : Bool), (zigzag s.size s.r)[i]? = some (x, y) ∧ s.final[i]? = some b ∧ t.g.get x y = b)) ∧
    (s.ms = .fixed → s.ds = .final → (zigzag s.size s.r).length ≠ s.final.length →
      exec .mxPlace s = .next (trapped .lengthError s.final.length s)) ∧
    (¬ (s.ms = .fixed ∧ s.ds = .final) →
      exec .mxPlace s = .next (trapped .sequenceError (s.ds.code + 16 * s.ms.code) s))

/-- R260, R262, R263, R361: MX.FIXED is steps 0 to 6 and leaves as many free cells as the stream has bits, for every tier;
so MX.BUILD, which is MX.FIXED and MX.PLACE, completes. -/
def Obligations.MxBuildCompletes : Prop :=
  ∀ s : State, live s →
    decode 0x58000000 = .ok .mxFixed ∧ decode 0x59000000 = .ok .mxBuild ∧
    (¬ (1 ≤ s.ds.code ∧ s.ms = .none) → exec .mxFixed s = .next (trapped .sequenceError (s.ds.code + 16 * s.ms.code) s)) ∧
    (¬ (s.ds = .final ∧ s.ms = .none) → exec .mxBuild s = .next (trapped .sequenceError (s.ds.code + 16 * s.ms.code) s)) ∧
    (1 ≤ s.ds.code → s.ms = .none →
      ∃ t u, exec .mxFixed s = .next t ∧
        execAll [.mxAlloc, .mxFind, .mxSep, .mxAlign, .mxTiming, .mxDark, .mxFmt] s = some u ∧
        t = { u with resp := ok s.row.side } ∧ t.ms = .fixed ∧ t.size = s.row.side ∧
        (s.rom = Rom.standard → 1 ≤ s.tier → s.tier ≤ 40 →
          (zigzag t.size t.r).length = 8 * s.row.tc + s.row.rem)) ∧
    (s.ds = .final → s.ms = .none →
      (∀ t, execAll [.mxFixed, .mxPlace] s = some t → exec .mxBuild s = .next t) ∧
      (∀ t u, execAll [.mxFixed] s = some u → exec .mxPlace u = .next t → t.resp.any (·.ok) = false →
        exec .mxBuild s = .next t ∧ t.ms = .fixed) ∧
      (s.rom = Rom.standard → 1 ≤ s.tier → s.tier ≤ 40 → s.final.length = 8 * s.row.tc + s.row.rem →
        ∃ t, exec .mxBuild s = .next t ∧ t.ms = .placed ∧ t.resp = ok s.final.length))

/-- R264: GRID.RD reads one cell of one of the four grids; R306: MK.RDS reads a stored score; their checks in order. -/
def Obligations.GridAndScoreReads : Prop :=
  ∀ (s : State) (a b c : Byte), live s →
    decode (0x5A#8 ++ a ++ b ++ c) = .ok (.gridRd a b c) ∧ decode (0x68#8 ++ a ++ 0#8 ++ 0#8) = .ok (.mkRds a) ∧
    (∀ grid valid, [(s.g, decide (s.ms ≠ .none)), (s.r, decide (s.ms ≠ .none)), (s.t, s.tv), (s.o, decide (s.ms = .masked))][a.toNat]? =
        some (grid, valid) →
      (valid = true → b.toNat < s.size → c.toNat < s.size →
        exec (.gridRd a b c) s = .next { s with resp := ok (grid.get b.toNat c.toNat).toNat }) ∧
      (valid = false → exec (.gridRd a b c) s = .next (trapped .sequenceError (s.ds.code + 16 * s.ms.code) s)) ∧
      (valid = true → s.size ≤ b.toNat → exec (.gridRd a b c) s = .next (trapped .rangeError b.toNat s)) ∧
      (valid = true → b.toNat < s.size → s.size ≤ c.toNat →
        exec (.gridRd a b c) s = .next (trapped .rangeError c.toNat s))) ∧
    (4 ≤ a.toNat → exec (.gridRd a b c) s = .next (trapped .rangeError a.toNat s)) ∧
    (∀ k : MaskIdx, a.toNat = k.val →
      (∀ v, s.score[k] = some v → exec (.mkRds a) s = .next { s with resp := some ⟨true, v⟩ }) ∧
      (s.score[k] = none → exec (.mkRds a) s = .next (trapped .sequenceError (s.ds.code + 16 * s.ms.code) s))) ∧
    (8 ≤ a.toNat → exec (.mkRds a) s = .next (trapped .rangeError a.toNat s))

/-! ### Mask evaluator -/

/-- R291, R292, R293, R294: the eight masks; the trial grid; a mask applied twice gives the grid back. -/
def Obligations.MaskBitAndApply : Prop :=
  ∀ (s : State) (a b c : Byte), live s →
    decode (0x60#8 ++ a ++ b ++ c) = .ok (.mkBit a b c) ∧ decode (0x61#8 ++ a ++ 0#8 ++ 0#8) = .ok (.mkApply a) ∧
    (∀ m : Bool, [(b.toNat + c.toNat) % 2 == 0, c.toNat % 2 == 0, b.toNat % 3 == 0, (b.toNat + c.toNat) % 3 == 0,
        (c.toNat / 2 + b.toNat / 3) % 2 == 0, (b.toNat * c.toNat) % 2 + (b.toNat * c.toNat) % 3 == 0,
        ((b.toNat * c.toNat) % 2 + (b.toNat * c.toNat) % 3) % 2 == 0,
        ((b.toNat + c.toNat) % 2 + (b.toNat * c.toNat) % 3) % 2 == 0][a.toNat]? = some m →
      exec (.mkBit a b c) s = .next { s with resp := ok m.toNat }) ∧
    (8 ≤ a.toNat → exec (.mkBit a b c) s = .next (trapped .rangeError a.toNat s)) ∧
    (8 ≤ s.ms.code → ∀ k : MaskIdx, a.toNat = k.val →
      ∃ t, exec (.mkApply a) s = .next t ∧ t = { s with t := t.t, tmask := k, tv := true, resp := ok 0 } ∧
        t.t.wf s.size = true ∧
        (∀ x y, x < s.size → y < s.size →
          t.t.get x y = if s.r.get x y then s.g.get x y else s.g.get x y ^^ maskFn k x y) ∧
        (∀ x y, x < s.size → y < s.size → (trialGrid k s.size t.t s.r).get x y = s.g.get x y)) ∧
    (8 ≤ s.ms.code → 8 ≤ a.toNat → exec (.mkApply a) s = .next (trapped .rangeError a.toNat s)) ∧
    (s.ms.code < 8 → exec (.mkApply a) s = .next (trapped .sequenceError (s.ds.code + 16 * s.ms.code) s))

/-- R296 to R304: the four penalties and the score, each counted another way than the machine does. -/
def Obligations.PenaltyCommands : Prop :=
  ∀ s : State, live s → s.rom = Rom.standard →
    decode 0x62000000 = .ok .mkP1 ∧ decode 0x63000000 = .ok .mkP2 ∧ decode 0x64000000 = .ok .mkP3 ∧
    decode 0x65000000 = .ok .mkP4 ∧ decode 0x66000000 = .ok .mkScore ∧
    (s.tv = true →
      exec .mkP1 s = .next { s with resp := ok (runsPenalty s.size s.t) } ∧
      exec .mkP2 s = .next { s with resp := ok (blocksPenalty s.size s.t) } ∧
      exec .mkP3 s = .next { s with resp := ok (windowsPenalty s.size s.t) } ∧
      exec .mkP4 s = .next { s with resp := ok (balancePenalty s.size s.t) } ∧
      exec .mkScore s = .next { s with
        score := s.score.set s.tmask (some (zext32 (totalPenalty s.size s.t))), resp := ok (totalPenalty s.size s.t) }) ∧
    (s.tv = false →
      exec .mkP1 s = .next (trapped .sequenceError (s.ds.code + 16 * s.ms.code) s) ∧
      exec .mkP2 s = .next (trapped .sequenceError (s.ds.code + 16 * s.ms.code) s) ∧
      exec .mkP3 s = .next (trapped .sequenceError (s.ds.code + 16 * s.ms.code) s) ∧
      exec .mkP4 s = .next (trapped .sequenceError (s.ds.code + 16 * s.ms.code) s) ∧
      exec .mkScore s = .next (trapped .sequenceError (s.ds.code + 16 * s.ms.code) s))

/-- R295: each penalty is bounded by the side, so a score fits 32 bits. -/
def Obligations.ScoreBounds : Prop :=
  ∀ (n : Nat) (t : Grid), 21 ≤ n → n ≤ 177 →
    pen1 n t ≤ 2 * n * (n - 2) ∧ pen2 n t ≤ 3 * (n - 1) ^ 2 ∧ pen3 Rom.standard n t ≤ 80 * n * (n - 10) ∧
    pen4 n t ≤ 100 ∧ gridScore Rom.standard n t < 5000000

/-- R305: MK.TRYALL scores the eight trial grids and keeps the lowest, the lowest index of a tie. -/
def Obligations.MkTryallKeepsTheBest : Prop :=
  ∀ s : State, live s →
    decode 0x67000000 = .ok .mkTryall ∧
    (8 ≤ s.ms.code →
      ∃ t, exec .mkTryall s = .next t ∧
        t = { s with
          t := t.t, o := t.o, tmask := 7, tv := true, score := t.score, best := t.best,
          bestScore := t.bestScore, ms := .masked, resp := ok t.best.val } ∧
        t.t = trialGrid 7 s.size s.g s.r ∧ t.o = trialGrid t.best s.size s.g s.r ∧
        (∀ k : MaskIdx, t.score[k] = some (zext32 (gridScore s.rom s.size (trialGrid k s.size s.g s.r)))) ∧
        t.bestScore = zext32 (gridScore s.rom s.size t.o) ∧
        (∀ k : MaskIdx, gridScore s.rom s.size t.o ≤ gridScore s.rom s.size (trialGrid k s.size s.g s.r)) ∧
        (∀ k : MaskIdx, k < t.best →
          gridScore s.rom s.size t.o < gridScore s.rom s.size (trialGrid k s.size s.g s.r))) ∧
    (s.ms.code < 8 → exec .mkTryall s = .next (trapped .sequenceError (s.ds.code + 16 * s.ms.code) s))

/-! ### Invariants -/

/-- Every invariant below holds after reset. -/
def Obligations.InvariantsAtReset : Prop :=
  DataInv State.reset ∧ MatrixInv State.reset ∧ FaultInv State.reset ∧ PolyInv State.reset ∧
  LocatorInv State.reset ∧ BlankInv State.reset ∧ memoryWf State.reset = true

/-- R23, R26, R32, R41: the data path's registers and buffers agree with the stage, whatever is presented. -/
def Obligations.DataPathInvariant : Prop :=
  ∀ s t : State, DataInv s → step s = .next t → DataInv t

/-- R24, R26, R27, R32: the matrix path's sizes, stages, grids and validity marks agree. -/
def Obligations.MatrixPathInvariant : Prop :=
  ∀ s t : State, DataInv s → MatrixInv s → step s = .next t → MatrixInv t

/-- R11, R30, R32: no buffer outgrows its depth and the grids keep their form. -/
def Obligations.BuffersKeepTheirForm : Prop :=
  ∀ s t : State, DataInv s → MatrixInv s → PolyInv s → memoryWf s = true → step s = .next t →
    PolyInv t ∧ memoryWf t = true

/-- R26, R27, R356: nothing is recorded without a fault. -/
def Obligations.FaultRegistersInvariant : Prop :=
  ∀ s t : State, FaultInv s → step s = .next t → FaultInv t

/-- R266: the three locator patterns stand in G from step 1 on, and in every T and O. -/
def Obligations.LocatorPatternsStand : Prop :=
  ∀ s t : State, DataInv s → LocatorInv s → step s = .next t → LocatorInv t

/-- R8, R267, R268: separators, format and version areas are light in every grid: the core never writes them. -/
def Obligations.BlankAreasStayLight : Prop :=
  ∀ s t : State, DataInv s → LocatorInv s → BlankInv s → step s = .next t → BlankInv t

end Statements
end

