-- ==== Sys2Proof/Laws/Decode.lean ====
section
/-! SUPPORT. The fields of a word put together from fields (spec R110), and the legality of the words of each format
(R111). -/

namespace Sys2Proof

/-! ### Fields of a word -/

theorem assemble_getLsbD (op a b c : Byte) (i : Nat) :
    (assemble op a b c).getLsbD i =
      if i < 8 then c.getLsbD i
      else if i < 16 then b.getLsbD (i - 8)
      else if i < 24 then a.getLsbD (i - 16)
      else op.getLsbD (i - 24) := by
  unfold assemble
  rw [BitVec.getLsbD_append, BitVec.getLsbD_append, BitVec.getLsbD_append]
  by_cases h1 : i < 8
  · rw [if_pos h1, if_pos h1]
  rw [if_neg h1, if_neg h1]
  by_cases h2 : i < 16
  · rw [if_pos h2, if_pos (by omega)]
  rw [if_neg h2, if_neg (by omega)]
  by_cases h3 : i < 24
  · rw [if_pos h3, if_pos (by omega), show i - 8 - 8 = i - 16 by omega]
  rw [if_neg h3, if_neg (by omega), show i - 8 - 8 - 8 = i - 24 by omega]

@[simp] theorem fieldOp_assemble (op a b c : Byte) : fieldOp (assemble op a b c) = op := by
  apply BitVec.eq_of_getLsbD_eq
  intro i hi
  rw [fieldOp, BitVec.getLsbD_extractLsb', assemble_getLsbD, if_neg (by omega), if_neg (by omega), if_neg (by omega)]
  simp [hi]

@[simp] theorem fieldA_assemble (op a b c : Byte) : fieldA (assemble op a b c) = a := by
  apply BitVec.eq_of_getLsbD_eq
  intro i hi
  rw [fieldA, BitVec.getLsbD_extractLsb', assemble_getLsbD, if_neg (by omega), if_neg (by omega), if_pos (by omega)]
  simp [hi]

@[simp] theorem fieldB_assemble (op a b c : Byte) : fieldB (assemble op a b c) = b := by
  apply BitVec.eq_of_getLsbD_eq
  intro i hi
  rw [fieldB, BitVec.getLsbD_extractLsb', assemble_getLsbD, if_neg (by omega), if_pos (by omega)]
  simp [hi]

@[simp] theorem fieldC_assemble (op a b c : Byte) : fieldC (assemble op a b c) = c := by
  apply BitVec.eq_of_getLsbD_eq
  intro i hi
  rw [fieldC, BitVec.getLsbD_extractLsb', assemble_getLsbD, if_pos (by omega)]
  simp [hi]

/-- `imm16 = b*256 + c` (R110): a word with a 16-bit operand is the word of the operand's two bytes. -/
theorem assembleImm_eq (op a : Byte) (imm : Half) :
    assembleImm op a imm = assemble op a (imm.extractLsb' 8 8) (imm.extractLsb' 0 8) := by
  apply BitVec.eq_of_getLsbD_eq
  intro i hi
  rw [assemble_getLsbD, assembleImm, BitVec.getLsbD_append, BitVec.getLsbD_append, BitVec.getLsbD_extractLsb',
    BitVec.getLsbD_extractLsb']
  by_cases h1 : i < 8
  · simp [h1, show i < 16 by omega]
  by_cases h2 : i < 16
  · simp [h1, h2, show i - 8 < 8 by omega, show 8 + (i - 8) = i by omega]
  by_cases h3 : i < 24
  · rw [if_neg h2, if_neg h1, if_neg h2, if_pos h3, if_pos (by omega)]
  · rw [if_neg h2, if_neg h1, if_neg h2, if_neg h3, if_neg (by omega), show i - 16 - 8 = i - 24 by omega]

@[simp] theorem fieldOp_assembleImm (op a : Byte) (imm : Half) : fieldOp (assembleImm op a imm) = op := by
  rw [assembleImm_eq, fieldOp_assemble]

@[simp] theorem fieldA_assembleImm (op a : Byte) (imm : Half) : fieldA (assembleImm op a imm) = a := by
  rw [assembleImm_eq, fieldA_assemble]

@[simp] theorem fieldImm_assembleImm (op a : Byte) (imm : Half) : fieldImm (assembleImm op a imm) = imm := by
  apply BitVec.eq_of_getLsbD_eq
  intro i hi
  rw [fieldImm, BitVec.getLsbD_extractLsb', assembleImm, BitVec.getLsbD_append, if_pos (by omega)]
  simp [hi]

/-! ### Legal words of each format -/

theorem legalWord_of_mask {w : Word} {f : Format} (hop : WellFormed.formatTable.lookup (fieldOp w) = some f)
    (hz : ∀ i, i < 32 → w.getLsbD i = true → (WellFormed.mustBeZero f).getLsbD i = false) :
    WellFormed.legalWord w = true := by
  unfold WellFormed.legalWord
  rw [show w.extractLsb' 24 8 = fieldOp w from rfl, hop]
  refine beq_iff_eq.mpr (BitVec.eq_of_getLsbD_eq fun i hi => ?_)
  rw [BitVec.getLsbD_and]
  cases hw : w.getLsbD i with
  | false => simp
  | true => simp [hz i hi hw]

/-- A bit at or above the size of a numeral is 0. -/
theorem getLsbD_above {m : Word} {k i : Nat} (h : m.toNat < 2 ^ k) (hi : k ≤ i) : m.getLsbD i = false :=
  Nat.testBit_lt_two_pow (Nat.lt_of_lt_of_le h (Nat.pow_le_pow_right (by omega) hi))

theorem legalWord_z {op : Byte} (h : WellFormed.formatTable.lookup op = some .z) :
    WellFormed.legalWord (assemble op 0 0 0) = true := by
  refine legalWord_of_mask (by rwa [fieldOp_assemble]) fun i _ hw => getLsbD_above (k := 24) (by decide) ?_
  simp [assemble_getLsbD] at hw
  omega

theorem legalWord_a {op a : Byte} (h : WellFormed.formatTable.lookup op = some .a) :
    WellFormed.legalWord (assemble op a 0 0) = true := by
  refine legalWord_of_mask (by rwa [fieldOp_assemble]) fun i _ hw => getLsbD_above (k := 16) (by decide) ?_
  simp [assemble_getLsbD] at hw
  omega

theorem legalWord_ab {op a b : Byte} (h : WellFormed.formatTable.lookup op = some .ab) :
    WellFormed.legalWord (assemble op a b 0) = true := by
  refine legalWord_of_mask (by rwa [fieldOp_assemble]) fun i _ hw => getLsbD_above (k := 8) (by decide) ?_
  simp [assemble_getLsbD] at hw
  omega

theorem legalWord_abc {op a b c : Byte} (h : WellFormed.formatTable.lookup op = some .abc) :
    WellFormed.legalWord (assemble op a b c) = true :=
  legalWord_of_mask (by rwa [fieldOp_assemble]) fun _ _ _ => by simp [WellFormed.mustBeZero]

theorem legalWord_i {op : Byte} {imm : Half} (h : WellFormed.formatTable.lookup op = some .i) :
    WellFormed.legalWord (assembleImm op 0 imm) = true := by
  refine legalWord_of_mask (by rwa [fieldOp_assembleImm]) fun i _ hw => ?_
  rw [assembleImm_eq, assemble_getLsbD] at hw
  by_cases hlow : i < 16
  · have : WellFormed.mustBeZero .i = 0xFF#32 <<< 16 := rfl
    rw [this, BitVec.getLsbD_shiftLeft]
    simp [hlow]
  · refine getLsbD_above (k := 24) (by decide) ?_
    rw [if_neg (by omega), if_neg hlow] at hw
    split at hw <;> try simp at hw
    omega

theorem legalWord_ai {op a : Byte} {imm : Half} (h : WellFormed.formatTable.lookup op = some .ai) :
    WellFormed.legalWord (assembleImm op a imm) = true :=
  legalWord_of_mask (by rwa [fieldOp_assembleImm]) fun _ _ _ => by simp [WellFormed.mustBeZero]

end Sys2Proof
end

