-- ==== Sys2Proof/Laws/Grid.lean ====
section
/-! SUPPORT. The laws of grids and bit sequences: a read after a write to the same cell gives the value written, a write
leaves every other cell alone, and every grid operation keeps the canonical form (spec R81, R84). -/

namespace Sys2Proof.Machine

/-! ### The canonical form -/

theorem Grid.wf_iff (n : Nat) (g : Grid) :
    g.wf n = true ↔ g.cols.length = n ∧ ∀ col ∈ g.cols, col.length = n := by
  simp [Grid.wf]

theorem Grid.wf_set {n : Nat} {g : Grid} (h : g.wf n = true) (x y : Nat) (v : Bool) : (g.set x y v).wf n = true := by
  rw [Grid.wf_iff] at *
  refine ⟨by simp [Grid.set, h.1], fun col hcol => ?_⟩
  obtain ⟨i, hi⟩ := List.mem_iff_getElem?.mp hcol
  simp only [Grid.set, List.getElem?_modify] at hi
  cases hc : g.cols[i]? with
  | none => simp [hc] at hi
  | some col0 =>
    have h0 := h.2 col0 (List.mem_of_getElem? hc)
    rw [hc] at hi
    by_cases hx : x = i
    · simp [hx] at hi; simp [← hi, h0]
    · simp [hx] at hi; simp [← hi, h0]

theorem Grid.wf_setAll {n : Nat} {g : Grid} (h : g.wf n = true) (ws : List (Cell × Bool)) : (g.setAll ws).wf n = true := by
  unfold Grid.setAll
  induction ws generalizing g with
  | nil => exact h
  | cons w ws ih => exact ih (Grid.wf_set h _ _ _)

theorem Grid.wf_tabulate (n : Nat) (f : Nat → Nat → Bool) : (Grid.tabulate n f).wf n = true := by
  rw [Grid.wf_iff]
  refine ⟨by simp [Grid.tabulate], fun col hcol => ?_⟩
  simp only [Grid.tabulate, List.mem_map] at hcol
  obtain ⟨x, -, rfl⟩ := hcol
  simp

theorem Grid.wf_blank (n : Nat) : (Grid.blank n).wf n = true := by
  rw [Grid.wf_iff]
  refine ⟨by simp [Grid.blank], fun col hcol => ?_⟩
  rw [List.eq_of_mem_replicate hcol]
  simp

theorem Grid.wf_empty : Grid.empty.wf 0 = true := rfl

/-! ### Reads and writes of a cell -/

theorem Grid.get_set_ne (g : Grid) {x y x' y' : Nat} (v : Bool) (h : ¬ (x = x' ∧ y = y')) :
    (g.set x y v).get x' y' = g.get x' y' := by
  simp only [Grid.get, Grid.set, List.getD_eq_getElem?_getD, List.getElem?_modify]
  cases hc : g.cols[x']? with
  | none => simp
  | some col =>
    by_cases hx : x = x'
    · have hy : y ≠ y' := fun e => h ⟨hx, e⟩
      simp [hx, List.getElem?_set_ne hy]
    · simp [hx]

theorem Grid.get_set_same {n : Nat} {g : Grid} (h : g.wf n = true) {x y : Nat} (hx : x < n) (hy : y < n) (v : Bool) :
    (g.set x y v).get x y = v := by
  rw [Grid.wf_iff] at h
  have hx' : x < g.cols.length := by omega
  have hlen : g.cols[x].length = n := h.2 _ (List.getElem_mem hx')
  simp [Grid.get, Grid.set, List.getD_eq_getElem?_getD, List.getElem?_eq_getElem hx', hlen, hy]

/-- A cell no write names is as before. -/
theorem Grid.get_setAll_not_mem (g : Grid) (ws : List (Cell × Bool)) (x y : Nat) (h : ∀ w ∈ ws, w.1 ≠ (x, y)) :
    (g.setAll ws).get x y = g.get x y := by
  unfold Grid.setAll
  induction ws generalizing g with
  | nil => rfl
  | cons w ws ih =>
    rw [List.foldl_cons, ih _ fun w' hw' => h w' (List.mem_cons_of_mem _ hw')]
    refine Grid.get_set_ne g _ fun e => h w (List.mem_cons_self ..) ?_
    exact Prod.ext e.1 e.2

/-- A cell the writes name, where every write of it writes `v`, holds `v`. -/
theorem Grid.get_setAll_mem {n : Nat} {g : Grid} (hg : g.wf n = true) (ws : List (Cell × Bool)) {x y : Nat} (hx : x < n)
    (hy : y < n) {v : Bool} (hmem : ((x, y), v) ∈ ws) (hall : ∀ w ∈ ws, w.1 = (x, y) → w.2 = v) :
    (g.setAll ws).get x y = v := by
  unfold Grid.setAll
  induction ws generalizing g with
  | nil => cases hmem
  | cons w ws ih =>
    rw [List.foldl_cons]
    by_cases hin : ((x, y), v) ∈ ws
    · exact ih (Grid.wf_set hg _ _ _) hin fun w' hw' => hall w' (List.mem_cons_of_mem _ hw')
    · have hw : w = ((x, y), v) := by
        cases hmem with
        | head => rfl
        | tail _ h => exact absurd h hin
      have hnot : ∀ w' ∈ ws, w'.1 ≠ (x, y) := fun w' hw' e =>
        hin (by rw [← hall w' (List.mem_cons_of_mem _ hw') e, ← e]; exact hw')
      have := Grid.get_setAll_not_mem (g.set w.1.1 w.1.2 w.2) ws x y hnot
      unfold Grid.setAll at this
      rw [this, hw]
      exact Grid.get_set_same hg hx hy v

theorem Grid.get_tabulate (n : Nat) (f : Nat → Nat → Bool) {x y : Nat} (hx : x < n) (hy : y < n) :
    (Grid.tabulate n f).get x y = f x y := by
  simp [Grid.tabulate, Grid.get, List.getD_eq_getElem?_getD, hx, hy]

theorem Grid.get_blank (n x y : Nat) : (Grid.blank n).get x y = false := by
  simp only [Grid.blank, Grid.get, List.getD_eq_getElem?_getD, List.getElem?_replicate]
  split
  · simp only [Option.getD_some, List.getElem?_replicate]
    split <;> rfl
  · rfl

/-- A cell outside the grid reads 0. -/
theorem Grid.get_outside {n : Nat} {g : Grid} (h : g.wf n = true) {x y : Nat} (hxy : n ≤ x ∨ n ≤ y) : g.get x y = false := by
  rw [Grid.wf_iff] at h
  simp only [Grid.get, List.getD_eq_getElem?_getD]
  cases hc : g.cols[x]? with
  | none => simp
  | some col =>
    have hx : x < g.cols.length := (List.getElem?_eq_some_iff.mp hc).1
    have hlen := h.2 col (List.mem_of_getElem? hc)
    have : col.length ≤ y := by omega
    simp [List.getElem?_eq_none this]

/-! ### Bit sequences -/

@[simp] theorem length_bitsOf (w v : Nat) : (bitsOf w v).length = w := by simp [bitsOf]

@[simp] theorem length_bits8 (b : Byte) : (bits8 b).length = 8 := by simp [bits8]

@[simp] theorem length_zeroBits (n : Nat) : (zeroBits n).length = n := by simp [zeroBits]

theorem length_flatMap_bits8 (bs : List Byte) : (bs.flatMap bits8).length = 8 * bs.length := by
  induction bs with
  | nil => rfl
  | cons b bs ih => simp [ih]; omega

/-- `byte_of` is the inverse of `bits_8` (R13). -/
theorem byteOf_bits8 (b : Byte) : byteOf (bits8 b) = b := by revert b; decide

/-- Codeword `i` of a sequence of codewords is the `i`-th one (R81). -/
theorem codewordAt_flatMap (bs : List Byte) (tail : List Bool) (i : Nat) (h : i < bs.length) :
    codewordAt (bs.flatMap bits8 ++ tail) i = bs[i] := by
  induction bs generalizing i with
  | nil => cases h
  | cons b bs ih =>
    cases i with
    | zero =>
      have : ((List.flatMap bits8 (b :: bs) ++ tail).take 8) = bits8 b := by
        rw [List.flatMap_cons, List.append_assoc, List.take_append_of_le_length (by simp)]
        exact List.take_of_length_le (by simp)
      simp only [codewordAt, Nat.mul_zero, List.drop_zero, this, byteOf_bits8, List.getElem_cons_zero]
    | succ k =>
      have hdrop : (List.flatMap bits8 (b :: bs) ++ tail).drop (8 * (k + 1)) = (bs.flatMap bits8 ++ tail).drop (8 * k) := by
        rw [List.flatMap_cons, List.append_assoc, Nat.mul_add, Nat.add_comm, ← List.drop_drop]
        congr 1
      have := ih k (by simpa using h)
      simp only [codewordAt] at this ⊢
      rw [hdrop, this, List.getElem_cons_succ]

end Sys2Proof.Machine
end

