-- ==== Sys2Proof/Laws/State.lean ====
section
/-! SUPPORT. What each named update of the state leaves in each field, every lemma true by `rfl`, so that no proof unfolds a
record update. -/

namespace Sys2Proof.Machine

variable (s : State)

/-! ### Accepting a word (R25, R42) -/

@[simp] theorem State.accept_rom (w : Word) (rest : List Input) : (s.accept w rest).rom = s.rom := rfl
@[simp] theorem State.accept_ds (w : Word) (rest : List Input) : (s.accept w rest).ds = s.ds := rfl
@[simp] theorem State.accept_ms (w : Word) (rest : List Input) : (s.accept w rest).ms = s.ms := rfl
@[simp] theorem State.accept_cc (w : Word) (rest : List Input) : (s.accept w rest).cc = s.cc + 1 := rfl
@[simp] theorem State.accept_gfv (w : Word) (rest : List Input) : (s.accept w rest).gfv = s.gfv := rfl
@[simp] theorem State.accept_flt (w : Word) (rest : List Input) : (s.accept w rest).flt = s.flt := rfl
@[simp] theorem State.accept_tv (w : Word) (rest : List Input) : (s.accept w rest).tv = s.tv := rfl
@[simp] theorem State.accept_err (w : Word) (rest : List Input) : (s.accept w rest).err = s.err := rfl
@[simp] theorem State.accept_errInfo (w : Word) (rest : List Input) : (s.accept w rest).errInfo = s.errInfo := rfl
@[simp] theorem State.accept_errCmd (w : Word) (rest : List Input) : (s.accept w rest).errCmd = s.errCmd := rfl
@[simp] theorem State.accept_tier (w : Word) (rest : List Input) : (s.accept w rest).tier = s.tier := rfl
@[simp] theorem State.accept_size (w : Word) (rest : List Input) : (s.accept w rest).size = s.size := rfl
@[simp] theorem State.accept_nblk (w : Word) (rest : List Input) : (s.accept w rest).nblk = s.nblk := rfl
@[simp] theorem State.accept_evcnt (w : Word) (rest : List Input) : (s.accept w rest).evcnt = s.evcnt := rfl
@[simp] theorem State.accept_tmask (w : Word) (rest : List Input) : (s.accept w rest).tmask = s.tmask := rfl
@[simp] theorem State.accept_best (w : Word) (rest : List Input) : (s.accept w rest).best = s.best := rfl
@[simp] theorem State.accept_bestScore (w : Word) (rest : List Input) : (s.accept w rest).bestScore = s.bestScore := rfl
@[simp] theorem State.accept_nstamp (w : Word) (rest : List Input) : (s.accept w rest).nstamp = s.nstamp := rfl
@[simp] theorem State.accept_poly (w : Word) (rest : List Input) : (s.accept w rest).poly = s.poly := rfl
@[simp] theorem State.accept_text (w : Word) (rest : List Input) : (s.accept w rest).text = s.text := rfl
@[simp] theorem State.accept_bits (w : Word) (rest : List Input) : (s.accept w rest).bits = s.bits := rfl
@[simp] theorem State.accept_d (w : Word) (rest : List Input) : (s.accept w rest).d = s.d := rfl
@[simp] theorem State.accept_e (w : Word) (rest : List Input) : (s.accept w rest).e = s.e := rfl
@[simp] theorem State.accept_final (w : Word) (rest : List Input) : (s.accept w rest).final = s.final := rfl
@[simp] theorem State.accept_g (w : Word) (rest : List Input) : (s.accept w rest).g = s.g := rfl
@[simp] theorem State.accept_r (w : Word) (rest : List Input) : (s.accept w rest).r = s.r := rfl
@[simp] theorem State.accept_t (w : Word) (rest : List Input) : (s.accept w rest).t = s.t := rfl
@[simp] theorem State.accept_o (w : Word) (rest : List Input) : (s.accept w rest).o = s.o := rfl
@[simp] theorem State.accept_score (w : Word) (rest : List Input) : (s.accept w rest).score = s.score := rfl
@[simp] theorem State.accept_cmd (w : Word) (rest : List Input) : (s.accept w rest).cmd = w := rfl
@[simp] theorem State.accept_input (w : Word) (rest : List Input) : (s.accept w rest).input = rest := rfl
@[simp] theorem State.accept_resp (w : Word) (rest : List Input) : (s.accept w rest).resp = s.resp := rfl

/-! ### Responding (R43) -/

@[simp] theorem State.respondWith_rom (a : Response) : (s.respondWith a).rom = s.rom := rfl
@[simp] theorem State.respondWith_ds (a : Response) : (s.respondWith a).ds = s.ds := rfl
@[simp] theorem State.respondWith_ms (a : Response) : (s.respondWith a).ms = s.ms := rfl
@[simp] theorem State.respondWith_cc (a : Response) : (s.respondWith a).cc = s.cc := rfl
@[simp] theorem State.respondWith_gfv (a : Response) : (s.respondWith a).gfv = s.gfv := rfl
@[simp] theorem State.respondWith_flt (a : Response) : (s.respondWith a).flt = s.flt := rfl
@[simp] theorem State.respondWith_tv (a : Response) : (s.respondWith a).tv = s.tv := rfl
@[simp] theorem State.respondWith_err (a : Response) : (s.respondWith a).err = s.err := rfl
@[simp] theorem State.respondWith_errInfo (a : Response) : (s.respondWith a).errInfo = s.errInfo := rfl
@[simp] theorem State.respondWith_errCmd (a : Response) : (s.respondWith a).errCmd = s.errCmd := rfl
@[simp] theorem State.respondWith_tier (a : Response) : (s.respondWith a).tier = s.tier := rfl
@[simp] theorem State.respondWith_size (a : Response) : (s.respondWith a).size = s.size := rfl
@[simp] theorem State.respondWith_nblk (a : Response) : (s.respondWith a).nblk = s.nblk := rfl
@[simp] theorem State.respondWith_evcnt (a : Response) : (s.respondWith a).evcnt = s.evcnt := rfl
@[simp] theorem State.respondWith_tmask (a : Response) : (s.respondWith a).tmask = s.tmask := rfl
@[simp] theorem State.respondWith_best (a : Response) : (s.respondWith a).best = s.best := rfl
@[simp] theorem State.respondWith_bestScore (a : Response) : (s.respondWith a).bestScore = s.bestScore := rfl
@[simp] theorem State.respondWith_nstamp (a : Response) : (s.respondWith a).nstamp = s.nstamp := rfl
@[simp] theorem State.respondWith_poly (a : Response) : (s.respondWith a).poly = s.poly := rfl
@[simp] theorem State.respondWith_text (a : Response) : (s.respondWith a).text = s.text := rfl
@[simp] theorem State.respondWith_bits (a : Response) : (s.respondWith a).bits = s.bits := rfl
@[simp] theorem State.respondWith_d (a : Response) : (s.respondWith a).d = s.d := rfl
@[simp] theorem State.respondWith_e (a : Response) : (s.respondWith a).e = s.e := rfl
@[simp] theorem State.respondWith_final (a : Response) : (s.respondWith a).final = s.final := rfl
@[simp] theorem State.respondWith_g (a : Response) : (s.respondWith a).g = s.g := rfl
@[simp] theorem State.respondWith_r (a : Response) : (s.respondWith a).r = s.r := rfl
@[simp] theorem State.respondWith_t (a : Response) : (s.respondWith a).t = s.t := rfl
@[simp] theorem State.respondWith_o (a : Response) : (s.respondWith a).o = s.o := rfl
@[simp] theorem State.respondWith_score (a : Response) : (s.respondWith a).score = s.score := rfl
@[simp] theorem State.respondWith_cmd (a : Response) : (s.respondWith a).cmd = s.cmd := rfl
@[simp] theorem State.respondWith_input (a : Response) : (s.respondWith a).input = s.input := rfl
@[simp] theorem State.respondWith_resp (a : Response) : (s.respondWith a).resp = some a := rfl

/-! ### Completing (R43) -/

@[simp] theorem State.complete_rom (v : Nat) : (s.complete v).rom = s.rom := rfl
@[simp] theorem State.complete_ds (v : Nat) : (s.complete v).ds = s.ds := rfl
@[simp] theorem State.complete_ms (v : Nat) : (s.complete v).ms = s.ms := rfl
@[simp] theorem State.complete_cc (v : Nat) : (s.complete v).cc = s.cc := rfl
@[simp] theorem State.complete_gfv (v : Nat) : (s.complete v).gfv = s.gfv := rfl
@[simp] theorem State.complete_flt (v : Nat) : (s.complete v).flt = s.flt := rfl
@[simp] theorem State.complete_tv (v : Nat) : (s.complete v).tv = s.tv := rfl
@[simp] theorem State.complete_err (v : Nat) : (s.complete v).err = s.err := rfl
@[simp] theorem State.complete_errInfo (v : Nat) : (s.complete v).errInfo = s.errInfo := rfl
@[simp] theorem State.complete_errCmd (v : Nat) : (s.complete v).errCmd = s.errCmd := rfl
@[simp] theorem State.complete_tier (v : Nat) : (s.complete v).tier = s.tier := rfl
@[simp] theorem State.complete_size (v : Nat) : (s.complete v).size = s.size := rfl
@[simp] theorem State.complete_nblk (v : Nat) : (s.complete v).nblk = s.nblk := rfl
@[simp] theorem State.complete_evcnt (v : Nat) : (s.complete v).evcnt = s.evcnt := rfl
@[simp] theorem State.complete_tmask (v : Nat) : (s.complete v).tmask = s.tmask := rfl
@[simp] theorem State.complete_best (v : Nat) : (s.complete v).best = s.best := rfl
@[simp] theorem State.complete_bestScore (v : Nat) : (s.complete v).bestScore = s.bestScore := rfl
@[simp] theorem State.complete_nstamp (v : Nat) : (s.complete v).nstamp = s.nstamp := rfl
@[simp] theorem State.complete_poly (v : Nat) : (s.complete v).poly = s.poly := rfl
@[simp] theorem State.complete_text (v : Nat) : (s.complete v).text = s.text := rfl
@[simp] theorem State.complete_bits (v : Nat) : (s.complete v).bits = s.bits := rfl
@[simp] theorem State.complete_d (v : Nat) : (s.complete v).d = s.d := rfl
@[simp] theorem State.complete_e (v : Nat) : (s.complete v).e = s.e := rfl
@[simp] theorem State.complete_final (v : Nat) : (s.complete v).final = s.final := rfl
@[simp] theorem State.complete_g (v : Nat) : (s.complete v).g = s.g := rfl
@[simp] theorem State.complete_r (v : Nat) : (s.complete v).r = s.r := rfl
@[simp] theorem State.complete_t (v : Nat) : (s.complete v).t = s.t := rfl
@[simp] theorem State.complete_o (v : Nat) : (s.complete v).o = s.o := rfl
@[simp] theorem State.complete_score (v : Nat) : (s.complete v).score = s.score := rfl
@[simp] theorem State.complete_cmd (v : Nat) : (s.complete v).cmd = s.cmd := rfl
@[simp] theorem State.complete_input (v : Nat) : (s.complete v).input = s.input := rfl
@[simp] theorem State.complete_resp (v : Nat) : (s.complete v).resp = some ⟨true, zext32 v⟩ := rfl

/-! ### Refusing (R43, R350) -/

@[simp] theorem State.refuse_rom (c : FaultCode) : (s.refuse c).rom = s.rom := rfl
@[simp] theorem State.refuse_ds (c : FaultCode) : (s.refuse c).ds = s.ds := rfl
@[simp] theorem State.refuse_ms (c : FaultCode) : (s.refuse c).ms = s.ms := rfl
@[simp] theorem State.refuse_cc (c : FaultCode) : (s.refuse c).cc = s.cc := rfl
@[simp] theorem State.refuse_gfv (c : FaultCode) : (s.refuse c).gfv = s.gfv := rfl
@[simp] theorem State.refuse_flt (c : FaultCode) : (s.refuse c).flt = s.flt := rfl
@[simp] theorem State.refuse_tv (c : FaultCode) : (s.refuse c).tv = s.tv := rfl
@[simp] theorem State.refuse_err (c : FaultCode) : (s.refuse c).err = s.err := rfl
@[simp] theorem State.refuse_errInfo (c : FaultCode) : (s.refuse c).errInfo = s.errInfo := rfl
@[simp] theorem State.refuse_errCmd (c : FaultCode) : (s.refuse c).errCmd = s.errCmd := rfl
@[simp] theorem State.refuse_tier (c : FaultCode) : (s.refuse c).tier = s.tier := rfl
@[simp] theorem State.refuse_size (c : FaultCode) : (s.refuse c).size = s.size := rfl
@[simp] theorem State.refuse_nblk (c : FaultCode) : (s.refuse c).nblk = s.nblk := rfl
@[simp] theorem State.refuse_evcnt (c : FaultCode) : (s.refuse c).evcnt = s.evcnt := rfl
@[simp] theorem State.refuse_tmask (c : FaultCode) : (s.refuse c).tmask = s.tmask := rfl
@[simp] theorem State.refuse_best (c : FaultCode) : (s.refuse c).best = s.best := rfl
@[simp] theorem State.refuse_bestScore (c : FaultCode) : (s.refuse c).bestScore = s.bestScore := rfl
@[simp] theorem State.refuse_nstamp (c : FaultCode) : (s.refuse c).nstamp = s.nstamp := rfl
@[simp] theorem State.refuse_poly (c : FaultCode) : (s.refuse c).poly = s.poly := rfl
@[simp] theorem State.refuse_text (c : FaultCode) : (s.refuse c).text = s.text := rfl
@[simp] theorem State.refuse_bits (c : FaultCode) : (s.refuse c).bits = s.bits := rfl
@[simp] theorem State.refuse_d (c : FaultCode) : (s.refuse c).d = s.d := rfl
@[simp] theorem State.refuse_e (c : FaultCode) : (s.refuse c).e = s.e := rfl
@[simp] theorem State.refuse_final (c : FaultCode) : (s.refuse c).final = s.final := rfl
@[simp] theorem State.refuse_g (c : FaultCode) : (s.refuse c).g = s.g := rfl
@[simp] theorem State.refuse_r (c : FaultCode) : (s.refuse c).r = s.r := rfl
@[simp] theorem State.refuse_t (c : FaultCode) : (s.refuse c).t = s.t := rfl
@[simp] theorem State.refuse_o (c : FaultCode) : (s.refuse c).o = s.o := rfl
@[simp] theorem State.refuse_score (c : FaultCode) : (s.refuse c).score = s.score := rfl
@[simp] theorem State.refuse_cmd (c : FaultCode) : (s.refuse c).cmd = s.cmd := rfl
@[simp] theorem State.refuse_input (c : FaultCode) : (s.refuse c).input = s.input := rfl
@[simp] theorem State.refuse_resp (c : FaultCode) : (s.refuse c).resp = some ⟨false, zext32 c.code⟩ := rfl

/-! ### The fault record (R356) -/

@[simp] theorem State.recordFault_rom (c : FaultCode) (n : Nat) : (s.recordFault c n).rom = s.rom := rfl
@[simp] theorem State.recordFault_ds (c : FaultCode) (n : Nat) : (s.recordFault c n).ds = s.ds := rfl
@[simp] theorem State.recordFault_ms (c : FaultCode) (n : Nat) : (s.recordFault c n).ms = s.ms := rfl
@[simp] theorem State.recordFault_cc (c : FaultCode) (n : Nat) : (s.recordFault c n).cc = s.cc := rfl
@[simp] theorem State.recordFault_gfv (c : FaultCode) (n : Nat) : (s.recordFault c n).gfv = s.gfv := rfl
@[simp] theorem State.recordFault_flt (c : FaultCode) (n : Nat) : (s.recordFault c n).flt = true := rfl
@[simp] theorem State.recordFault_tv (c : FaultCode) (n : Nat) : (s.recordFault c n).tv = s.tv := rfl
@[simp] theorem State.recordFault_err (c : FaultCode) (n : Nat) : (s.recordFault c n).err = some c := rfl
@[simp] theorem State.recordFault_errInfo (c : FaultCode) (n : Nat) : (s.recordFault c n).errInfo = zext32 n := rfl
@[simp] theorem State.recordFault_errCmd (c : FaultCode) (n : Nat) : (s.recordFault c n).errCmd = s.cmd := rfl
@[simp] theorem State.recordFault_tier (c : FaultCode) (n : Nat) : (s.recordFault c n).tier = s.tier := rfl
@[simp] theorem State.recordFault_size (c : FaultCode) (n : Nat) : (s.recordFault c n).size = s.size := rfl
@[simp] theorem State.recordFault_nblk (c : FaultCode) (n : Nat) : (s.recordFault c n).nblk = s.nblk := rfl
@[simp] theorem State.recordFault_evcnt (c : FaultCode) (n : Nat) : (s.recordFault c n).evcnt = s.evcnt := rfl
@[simp] theorem State.recordFault_tmask (c : FaultCode) (n : Nat) : (s.recordFault c n).tmask = s.tmask := rfl
@[simp] theorem State.recordFault_best (c : FaultCode) (n : Nat) : (s.recordFault c n).best = s.best := rfl
@[simp] theorem State.recordFault_bestScore (c : FaultCode) (n : Nat) : (s.recordFault c n).bestScore = s.bestScore := rfl
@[simp] theorem State.recordFault_nstamp (c : FaultCode) (n : Nat) : (s.recordFault c n).nstamp = s.nstamp := rfl
@[simp] theorem State.recordFault_poly (c : FaultCode) (n : Nat) : (s.recordFault c n).poly = s.poly := rfl
@[simp] theorem State.recordFault_text (c : FaultCode) (n : Nat) : (s.recordFault c n).text = s.text := rfl
@[simp] theorem State.recordFault_bits (c : FaultCode) (n : Nat) : (s.recordFault c n).bits = s.bits := rfl
@[simp] theorem State.recordFault_d (c : FaultCode) (n : Nat) : (s.recordFault c n).d = s.d := rfl
@[simp] theorem State.recordFault_e (c : FaultCode) (n : Nat) : (s.recordFault c n).e = s.e := rfl
@[simp] theorem State.recordFault_final (c : FaultCode) (n : Nat) : (s.recordFault c n).final = s.final := rfl
@[simp] theorem State.recordFault_g (c : FaultCode) (n : Nat) : (s.recordFault c n).g = s.g := rfl
@[simp] theorem State.recordFault_r (c : FaultCode) (n : Nat) : (s.recordFault c n).r = s.r := rfl
@[simp] theorem State.recordFault_t (c : FaultCode) (n : Nat) : (s.recordFault c n).t = s.t := rfl
@[simp] theorem State.recordFault_o (c : FaultCode) (n : Nat) : (s.recordFault c n).o = s.o := rfl
@[simp] theorem State.recordFault_score (c : FaultCode) (n : Nat) : (s.recordFault c n).score = s.score := rfl
@[simp] theorem State.recordFault_cmd (c : FaultCode) (n : Nat) : (s.recordFault c n).cmd = s.cmd := rfl
@[simp] theorem State.recordFault_input (c : FaultCode) (n : Nat) : (s.recordFault c n).input = s.input := rfl
@[simp] theorem State.recordFault_resp (c : FaultCode) (n : Nat) : (s.recordFault c n).resp = s.resp := rfl

/-! ### Writing E (R224) -/

@[simp] theorem State.setRedundancy_rom (b : Nat) (ws : List Byte) : (s.setRedundancy b ws).rom = s.rom := rfl
@[simp] theorem State.setRedundancy_ds (b : Nat) (ws : List Byte) : (s.setRedundancy b ws).ds = s.ds := rfl
@[simp] theorem State.setRedundancy_ms (b : Nat) (ws : List Byte) : (s.setRedundancy b ws).ms = s.ms := rfl
@[simp] theorem State.setRedundancy_cc (b : Nat) (ws : List Byte) : (s.setRedundancy b ws).cc = s.cc := rfl
@[simp] theorem State.setRedundancy_gfv (b : Nat) (ws : List Byte) : (s.setRedundancy b ws).gfv = s.gfv := rfl
@[simp] theorem State.setRedundancy_flt (b : Nat) (ws : List Byte) : (s.setRedundancy b ws).flt = s.flt := rfl
@[simp] theorem State.setRedundancy_tv (b : Nat) (ws : List Byte) : (s.setRedundancy b ws).tv = s.tv := rfl
@[simp] theorem State.setRedundancy_err (b : Nat) (ws : List Byte) : (s.setRedundancy b ws).err = s.err := rfl
@[simp] theorem State.setRedundancy_errInfo (b : Nat) (ws : List Byte) : (s.setRedundancy b ws).errInfo = s.errInfo := rfl
@[simp] theorem State.setRedundancy_errCmd (b : Nat) (ws : List Byte) : (s.setRedundancy b ws).errCmd = s.errCmd := rfl
@[simp] theorem State.setRedundancy_tier (b : Nat) (ws : List Byte) : (s.setRedundancy b ws).tier = s.tier := rfl
@[simp] theorem State.setRedundancy_size (b : Nat) (ws : List Byte) : (s.setRedundancy b ws).size = s.size := rfl
@[simp] theorem State.setRedundancy_nblk (b : Nat) (ws : List Byte) : (s.setRedundancy b ws).nblk = s.nblk := rfl
@[simp] theorem State.setRedundancy_evcnt (b : Nat) (ws : List Byte) : (s.setRedundancy b ws).evcnt = s.evcnt := rfl
@[simp] theorem State.setRedundancy_tmask (b : Nat) (ws : List Byte) : (s.setRedundancy b ws).tmask = s.tmask := rfl
@[simp] theorem State.setRedundancy_best (b : Nat) (ws : List Byte) : (s.setRedundancy b ws).best = s.best := rfl
@[simp] theorem State.setRedundancy_bestScore (b : Nat) (ws : List Byte) : (s.setRedundancy b ws).bestScore = s.bestScore := rfl
@[simp] theorem State.setRedundancy_nstamp (b : Nat) (ws : List Byte) : (s.setRedundancy b ws).nstamp = s.nstamp := rfl
@[simp] theorem State.setRedundancy_poly (b : Nat) (ws : List Byte) : (s.setRedundancy b ws).poly = s.poly := rfl
@[simp] theorem State.setRedundancy_text (b : Nat) (ws : List Byte) : (s.setRedundancy b ws).text = s.text := rfl
@[simp] theorem State.setRedundancy_bits (b : Nat) (ws : List Byte) : (s.setRedundancy b ws).bits = s.bits := rfl
@[simp] theorem State.setRedundancy_d (b : Nat) (ws : List Byte) : (s.setRedundancy b ws).d = s.d := rfl
@[simp] theorem State.setRedundancy_e (b : Nat) (ws : List Byte) : (s.setRedundancy b ws).e = s.e.set b (some ws) := rfl
@[simp] theorem State.setRedundancy_final (b : Nat) (ws : List Byte) : (s.setRedundancy b ws).final = s.final := rfl
@[simp] theorem State.setRedundancy_g (b : Nat) (ws : List Byte) : (s.setRedundancy b ws).g = s.g := rfl
@[simp] theorem State.setRedundancy_r (b : Nat) (ws : List Byte) : (s.setRedundancy b ws).r = s.r := rfl
@[simp] theorem State.setRedundancy_t (b : Nat) (ws : List Byte) : (s.setRedundancy b ws).t = s.t := rfl
@[simp] theorem State.setRedundancy_o (b : Nat) (ws : List Byte) : (s.setRedundancy b ws).o = s.o := rfl
@[simp] theorem State.setRedundancy_score (b : Nat) (ws : List Byte) : (s.setRedundancy b ws).score = s.score := rfl
@[simp] theorem State.setRedundancy_cmd (b : Nat) (ws : List Byte) : (s.setRedundancy b ws).cmd = s.cmd := rfl
@[simp] theorem State.setRedundancy_input (b : Nat) (ws : List Byte) : (s.setRedundancy b ws).input = s.input := rfl
@[simp] theorem State.setRedundancy_resp (b : Nat) (ws : List Byte) : (s.setRedundancy b ws).resp = s.resp := rfl

/-! ### Writing SCORE (R304) -/

@[simp] theorem State.setScore_rom (k : MaskIdx) (v : Nat) : (s.setScore k v).rom = s.rom := rfl
@[simp] theorem State.setScore_ds (k : MaskIdx) (v : Nat) : (s.setScore k v).ds = s.ds := rfl
@[simp] theorem State.setScore_ms (k : MaskIdx) (v : Nat) : (s.setScore k v).ms = s.ms := rfl
@[simp] theorem State.setScore_cc (k : MaskIdx) (v : Nat) : (s.setScore k v).cc = s.cc := rfl
@[simp] theorem State.setScore_gfv (k : MaskIdx) (v : Nat) : (s.setScore k v).gfv = s.gfv := rfl
@[simp] theorem State.setScore_flt (k : MaskIdx) (v : Nat) : (s.setScore k v).flt = s.flt := rfl
@[simp] theorem State.setScore_tv (k : MaskIdx) (v : Nat) : (s.setScore k v).tv = s.tv := rfl
@[simp] theorem State.setScore_err (k : MaskIdx) (v : Nat) : (s.setScore k v).err = s.err := rfl
@[simp] theorem State.setScore_errInfo (k : MaskIdx) (v : Nat) : (s.setScore k v).errInfo = s.errInfo := rfl
@[simp] theorem State.setScore_errCmd (k : MaskIdx) (v : Nat) : (s.setScore k v).errCmd = s.errCmd := rfl
@[simp] theorem State.setScore_tier (k : MaskIdx) (v : Nat) : (s.setScore k v).tier = s.tier := rfl
@[simp] theorem State.setScore_size (k : MaskIdx) (v : Nat) : (s.setScore k v).size = s.size := rfl
@[simp] theorem State.setScore_nblk (k : MaskIdx) (v : Nat) : (s.setScore k v).nblk = s.nblk := rfl
@[simp] theorem State.setScore_evcnt (k : MaskIdx) (v : Nat) : (s.setScore k v).evcnt = s.evcnt := rfl
@[simp] theorem State.setScore_tmask (k : MaskIdx) (v : Nat) : (s.setScore k v).tmask = s.tmask := rfl
@[simp] theorem State.setScore_best (k : MaskIdx) (v : Nat) : (s.setScore k v).best = s.best := rfl
@[simp] theorem State.setScore_bestScore (k : MaskIdx) (v : Nat) : (s.setScore k v).bestScore = s.bestScore := rfl
@[simp] theorem State.setScore_nstamp (k : MaskIdx) (v : Nat) : (s.setScore k v).nstamp = s.nstamp := rfl
@[simp] theorem State.setScore_poly (k : MaskIdx) (v : Nat) : (s.setScore k v).poly = s.poly := rfl
@[simp] theorem State.setScore_text (k : MaskIdx) (v : Nat) : (s.setScore k v).text = s.text := rfl
@[simp] theorem State.setScore_bits (k : MaskIdx) (v : Nat) : (s.setScore k v).bits = s.bits := rfl
@[simp] theorem State.setScore_d (k : MaskIdx) (v : Nat) : (s.setScore k v).d = s.d := rfl
@[simp] theorem State.setScore_e (k : MaskIdx) (v : Nat) : (s.setScore k v).e = s.e := rfl
@[simp] theorem State.setScore_final (k : MaskIdx) (v : Nat) : (s.setScore k v).final = s.final := rfl
@[simp] theorem State.setScore_g (k : MaskIdx) (v : Nat) : (s.setScore k v).g = s.g := rfl
@[simp] theorem State.setScore_r (k : MaskIdx) (v : Nat) : (s.setScore k v).r = s.r := rfl
@[simp] theorem State.setScore_t (k : MaskIdx) (v : Nat) : (s.setScore k v).t = s.t := rfl
@[simp] theorem State.setScore_o (k : MaskIdx) (v : Nat) : (s.setScore k v).o = s.o := rfl
@[simp] theorem State.setScore_score (k : MaskIdx) (v : Nat) : (s.setScore k v).score = s.score.set k (some (zext32 v)) := rfl
@[simp] theorem State.setScore_cmd (k : MaskIdx) (v : Nat) : (s.setScore k v).cmd = s.cmd := rfl
@[simp] theorem State.setScore_input (k : MaskIdx) (v : Nat) : (s.setScore k v).input = s.input := rfl
@[simp] theorem State.setScore_resp (k : MaskIdx) (v : Nat) : (s.setScore k v).resp = s.resp := rfl

/-! ### Stamping (R251) -/

@[simp] theorem State.stamp_rom (cells : List (Cell × Bool)) : (s.stamp cells).rom = s.rom := rfl
@[simp] theorem State.stamp_ds (cells : List (Cell × Bool)) : (s.stamp cells).ds = s.ds := rfl
@[simp] theorem State.stamp_ms (cells : List (Cell × Bool)) : (s.stamp cells).ms = s.ms := rfl
@[simp] theorem State.stamp_cc (cells : List (Cell × Bool)) : (s.stamp cells).cc = s.cc := rfl
@[simp] theorem State.stamp_gfv (cells : List (Cell × Bool)) : (s.stamp cells).gfv = s.gfv := rfl
@[simp] theorem State.stamp_flt (cells : List (Cell × Bool)) : (s.stamp cells).flt = s.flt := rfl
@[simp] theorem State.stamp_tv (cells : List (Cell × Bool)) : (s.stamp cells).tv = s.tv := rfl
@[simp] theorem State.stamp_err (cells : List (Cell × Bool)) : (s.stamp cells).err = s.err := rfl
@[simp] theorem State.stamp_errInfo (cells : List (Cell × Bool)) : (s.stamp cells).errInfo = s.errInfo := rfl
@[simp] theorem State.stamp_errCmd (cells : List (Cell × Bool)) : (s.stamp cells).errCmd = s.errCmd := rfl
@[simp] theorem State.stamp_tier (cells : List (Cell × Bool)) : (s.stamp cells).tier = s.tier := rfl
@[simp] theorem State.stamp_size (cells : List (Cell × Bool)) : (s.stamp cells).size = s.size := rfl
@[simp] theorem State.stamp_nblk (cells : List (Cell × Bool)) : (s.stamp cells).nblk = s.nblk := rfl
@[simp] theorem State.stamp_evcnt (cells : List (Cell × Bool)) : (s.stamp cells).evcnt = s.evcnt := rfl
@[simp] theorem State.stamp_tmask (cells : List (Cell × Bool)) : (s.stamp cells).tmask = s.tmask := rfl
@[simp] theorem State.stamp_best (cells : List (Cell × Bool)) : (s.stamp cells).best = s.best := rfl
@[simp] theorem State.stamp_bestScore (cells : List (Cell × Bool)) : (s.stamp cells).bestScore = s.bestScore := rfl
@[simp] theorem State.stamp_nstamp (cells : List (Cell × Bool)) : (s.stamp cells).nstamp = s.nstamp := rfl
@[simp] theorem State.stamp_poly (cells : List (Cell × Bool)) : (s.stamp cells).poly = s.poly := rfl
@[simp] theorem State.stamp_text (cells : List (Cell × Bool)) : (s.stamp cells).text = s.text := rfl
@[simp] theorem State.stamp_bits (cells : List (Cell × Bool)) : (s.stamp cells).bits = s.bits := rfl
@[simp] theorem State.stamp_d (cells : List (Cell × Bool)) : (s.stamp cells).d = s.d := rfl
@[simp] theorem State.stamp_e (cells : List (Cell × Bool)) : (s.stamp cells).e = s.e := rfl
@[simp] theorem State.stamp_final (cells : List (Cell × Bool)) : (s.stamp cells).final = s.final := rfl
@[simp] theorem State.stamp_g (cells : List (Cell × Bool)) : (s.stamp cells).g = s.g.setAll cells := rfl
@[simp] theorem State.stamp_r (cells : List (Cell × Bool)) : (s.stamp cells).r = s.r.setAll (cells.map fun c => (c.1, true)) := rfl
@[simp] theorem State.stamp_t (cells : List (Cell × Bool)) : (s.stamp cells).t = s.t := rfl
@[simp] theorem State.stamp_o (cells : List (Cell × Bool)) : (s.stamp cells).o = s.o := rfl
@[simp] theorem State.stamp_score (cells : List (Cell × Bool)) : (s.stamp cells).score = s.score := rfl
@[simp] theorem State.stamp_cmd (cells : List (Cell × Bool)) : (s.stamp cells).cmd = s.cmd := rfl
@[simp] theorem State.stamp_input (cells : List (Cell × Bool)) : (s.stamp cells).input = s.input := rfl
@[simp] theorem State.stamp_resp (cells : List (Cell × Bool)) : (s.stamp cells).resp = s.resp := rfl

/-! ### Reserving (R251) -/

@[simp] theorem State.reserve_rom (cells : List Cell) : (s.reserve cells).rom = s.rom := rfl
@[simp] theorem State.reserve_ds (cells : List Cell) : (s.reserve cells).ds = s.ds := rfl
@[simp] theorem State.reserve_ms (cells : List Cell) : (s.reserve cells).ms = s.ms := rfl
@[simp] theorem State.reserve_cc (cells : List Cell) : (s.reserve cells).cc = s.cc := rfl
@[simp] theorem State.reserve_gfv (cells : List Cell) : (s.reserve cells).gfv = s.gfv := rfl
@[simp] theorem State.reserve_flt (cells : List Cell) : (s.reserve cells).flt = s.flt := rfl
@[simp] theorem State.reserve_tv (cells : List Cell) : (s.reserve cells).tv = s.tv := rfl
@[simp] theorem State.reserve_err (cells : List Cell) : (s.reserve cells).err = s.err := rfl
@[simp] theorem State.reserve_errInfo (cells : List Cell) : (s.reserve cells).errInfo = s.errInfo := rfl
@[simp] theorem State.reserve_errCmd (cells : List Cell) : (s.reserve cells).errCmd = s.errCmd := rfl
@[simp] theorem State.reserve_tier (cells : List Cell) : (s.reserve cells).tier = s.tier := rfl
@[simp] theorem State.reserve_size (cells : List Cell) : (s.reserve cells).size = s.size := rfl
@[simp] theorem State.reserve_nblk (cells : List Cell) : (s.reserve cells).nblk = s.nblk := rfl
@[simp] theorem State.reserve_evcnt (cells : List Cell) : (s.reserve cells).evcnt = s.evcnt := rfl
@[simp] theorem State.reserve_tmask (cells : List Cell) : (s.reserve cells).tmask = s.tmask := rfl
@[simp] theorem State.reserve_best (cells : List Cell) : (s.reserve cells).best = s.best := rfl
@[simp] theorem State.reserve_bestScore (cells : List Cell) : (s.reserve cells).bestScore = s.bestScore := rfl
@[simp] theorem State.reserve_nstamp (cells : List Cell) : (s.reserve cells).nstamp = s.nstamp := rfl
@[simp] theorem State.reserve_poly (cells : List Cell) : (s.reserve cells).poly = s.poly := rfl
@[simp] theorem State.reserve_text (cells : List Cell) : (s.reserve cells).text = s.text := rfl
@[simp] theorem State.reserve_bits (cells : List Cell) : (s.reserve cells).bits = s.bits := rfl
@[simp] theorem State.reserve_d (cells : List Cell) : (s.reserve cells).d = s.d := rfl
@[simp] theorem State.reserve_e (cells : List Cell) : (s.reserve cells).e = s.e := rfl
@[simp] theorem State.reserve_final (cells : List Cell) : (s.reserve cells).final = s.final := rfl
@[simp] theorem State.reserve_g (cells : List Cell) : (s.reserve cells).g = s.g := rfl
@[simp] theorem State.reserve_r (cells : List Cell) : (s.reserve cells).r = s.r.setAll (cells.map fun c => (c, true)) := rfl
@[simp] theorem State.reserve_t (cells : List Cell) : (s.reserve cells).t = s.t := rfl
@[simp] theorem State.reserve_o (cells : List Cell) : (s.reserve cells).o = s.o := rfl
@[simp] theorem State.reserve_score (cells : List Cell) : (s.reserve cells).score = s.score := rfl
@[simp] theorem State.reserve_cmd (cells : List Cell) : (s.reserve cells).cmd = s.cmd := rfl
@[simp] theorem State.reserve_input (cells : List Cell) : (s.reserve cells).input = s.input := rfl
@[simp] theorem State.reserve_resp (cells : List Cell) : (s.reserve cells).resp = s.resp := rfl

/-! ### Writing a polynomial register (R30) -/

@[simp] theorem State.writePoly_rom (p : PolyReg) (c : List Byte) : (s.writePoly p c).rom = s.rom := rfl
@[simp] theorem State.writePoly_ds (p : PolyReg) (c : List Byte) : (s.writePoly p c).ds = s.ds := rfl
@[simp] theorem State.writePoly_ms (p : PolyReg) (c : List Byte) : (s.writePoly p c).ms = s.ms := rfl
@[simp] theorem State.writePoly_cc (p : PolyReg) (c : List Byte) : (s.writePoly p c).cc = s.cc := rfl
@[simp] theorem State.writePoly_gfv (p : PolyReg) (c : List Byte) : (s.writePoly p c).gfv = s.gfv := rfl
@[simp] theorem State.writePoly_flt (p : PolyReg) (c : List Byte) : (s.writePoly p c).flt = s.flt := rfl
@[simp] theorem State.writePoly_tv (p : PolyReg) (c : List Byte) : (s.writePoly p c).tv = s.tv := rfl
@[simp] theorem State.writePoly_err (p : PolyReg) (c : List Byte) : (s.writePoly p c).err = s.err := rfl
@[simp] theorem State.writePoly_errInfo (p : PolyReg) (c : List Byte) : (s.writePoly p c).errInfo = s.errInfo := rfl
@[simp] theorem State.writePoly_errCmd (p : PolyReg) (c : List Byte) : (s.writePoly p c).errCmd = s.errCmd := rfl
@[simp] theorem State.writePoly_tier (p : PolyReg) (c : List Byte) : (s.writePoly p c).tier = s.tier := rfl
@[simp] theorem State.writePoly_size (p : PolyReg) (c : List Byte) : (s.writePoly p c).size = s.size := rfl
@[simp] theorem State.writePoly_nblk (p : PolyReg) (c : List Byte) : (s.writePoly p c).nblk = s.nblk := rfl
@[simp] theorem State.writePoly_evcnt (p : PolyReg) (c : List Byte) : (s.writePoly p c).evcnt = s.evcnt := rfl
@[simp] theorem State.writePoly_tmask (p : PolyReg) (c : List Byte) : (s.writePoly p c).tmask = s.tmask := rfl
@[simp] theorem State.writePoly_best (p : PolyReg) (c : List Byte) : (s.writePoly p c).best = s.best := rfl
@[simp] theorem State.writePoly_bestScore (p : PolyReg) (c : List Byte) : (s.writePoly p c).bestScore = s.bestScore := rfl
@[simp] theorem State.writePoly_nstamp (p : PolyReg) (c : List Byte) : (s.writePoly p c).nstamp = s.nstamp := rfl
@[simp] theorem State.writePoly_poly (p : PolyReg) (c : List Byte) : (s.writePoly p c).poly = s.poly.write p c := rfl
@[simp] theorem State.writePoly_text (p : PolyReg) (c : List Byte) : (s.writePoly p c).text = s.text := rfl
@[simp] theorem State.writePoly_bits (p : PolyReg) (c : List Byte) : (s.writePoly p c).bits = s.bits := rfl
@[simp] theorem State.writePoly_d (p : PolyReg) (c : List Byte) : (s.writePoly p c).d = s.d := rfl
@[simp] theorem State.writePoly_e (p : PolyReg) (c : List Byte) : (s.writePoly p c).e = s.e := rfl
@[simp] theorem State.writePoly_final (p : PolyReg) (c : List Byte) : (s.writePoly p c).final = s.final := rfl
@[simp] theorem State.writePoly_g (p : PolyReg) (c : List Byte) : (s.writePoly p c).g = s.g := rfl
@[simp] theorem State.writePoly_r (p : PolyReg) (c : List Byte) : (s.writePoly p c).r = s.r := rfl
@[simp] theorem State.writePoly_t (p : PolyReg) (c : List Byte) : (s.writePoly p c).t = s.t := rfl
@[simp] theorem State.writePoly_o (p : PolyReg) (c : List Byte) : (s.writePoly p c).o = s.o := rfl
@[simp] theorem State.writePoly_score (p : PolyReg) (c : List Byte) : (s.writePoly p c).score = s.score := rfl
@[simp] theorem State.writePoly_cmd (p : PolyReg) (c : List Byte) : (s.writePoly p c).cmd = s.cmd := rfl
@[simp] theorem State.writePoly_input (p : PolyReg) (c : List Byte) : (s.writePoly p c).input = s.input := rfl
@[simp] theorem State.writePoly_resp (p : PolyReg) (c : List Byte) : (s.writePoly p c).resp = s.resp := rfl

/-! ### Building the trial grid (R294) -/

@[simp] theorem State.applyMask_rom (k : MaskIdx) : (s.applyMask k).rom = s.rom := rfl
@[simp] theorem State.applyMask_ds (k : MaskIdx) : (s.applyMask k).ds = s.ds := rfl
@[simp] theorem State.applyMask_ms (k : MaskIdx) : (s.applyMask k).ms = s.ms := rfl
@[simp] theorem State.applyMask_cc (k : MaskIdx) : (s.applyMask k).cc = s.cc := rfl
@[simp] theorem State.applyMask_gfv (k : MaskIdx) : (s.applyMask k).gfv = s.gfv := rfl
@[simp] theorem State.applyMask_flt (k : MaskIdx) : (s.applyMask k).flt = s.flt := rfl
@[simp] theorem State.applyMask_tv (k : MaskIdx) : (s.applyMask k).tv = true := rfl
@[simp] theorem State.applyMask_err (k : MaskIdx) : (s.applyMask k).err = s.err := rfl
@[simp] theorem State.applyMask_errInfo (k : MaskIdx) : (s.applyMask k).errInfo = s.errInfo := rfl
@[simp] theorem State.applyMask_errCmd (k : MaskIdx) : (s.applyMask k).errCmd = s.errCmd := rfl
@[simp] theorem State.applyMask_tier (k : MaskIdx) : (s.applyMask k).tier = s.tier := rfl
@[simp] theorem State.applyMask_size (k : MaskIdx) : (s.applyMask k).size = s.size := rfl
@[simp] theorem State.applyMask_nblk (k : MaskIdx) : (s.applyMask k).nblk = s.nblk := rfl
@[simp] theorem State.applyMask_evcnt (k : MaskIdx) : (s.applyMask k).evcnt = s.evcnt := rfl
@[simp] theorem State.applyMask_tmask (k : MaskIdx) : (s.applyMask k).tmask = k := rfl
@[simp] theorem State.applyMask_best (k : MaskIdx) : (s.applyMask k).best = s.best := rfl
@[simp] theorem State.applyMask_bestScore (k : MaskIdx) : (s.applyMask k).bestScore = s.bestScore := rfl
@[simp] theorem State.applyMask_nstamp (k : MaskIdx) : (s.applyMask k).nstamp = s.nstamp := rfl
@[simp] theorem State.applyMask_poly (k : MaskIdx) : (s.applyMask k).poly = s.poly := rfl
@[simp] theorem State.applyMask_text (k : MaskIdx) : (s.applyMask k).text = s.text := rfl
@[simp] theorem State.applyMask_bits (k : MaskIdx) : (s.applyMask k).bits = s.bits := rfl
@[simp] theorem State.applyMask_d (k : MaskIdx) : (s.applyMask k).d = s.d := rfl
@[simp] theorem State.applyMask_e (k : MaskIdx) : (s.applyMask k).e = s.e := rfl
@[simp] theorem State.applyMask_final (k : MaskIdx) : (s.applyMask k).final = s.final := rfl
@[simp] theorem State.applyMask_g (k : MaskIdx) : (s.applyMask k).g = s.g := rfl
@[simp] theorem State.applyMask_r (k : MaskIdx) : (s.applyMask k).r = s.r := rfl
@[simp] theorem State.applyMask_t (k : MaskIdx) : (s.applyMask k).t = trialGrid k s.size s.g s.r := rfl
@[simp] theorem State.applyMask_o (k : MaskIdx) : (s.applyMask k).o = s.o := rfl
@[simp] theorem State.applyMask_score (k : MaskIdx) : (s.applyMask k).score = s.score := rfl
@[simp] theorem State.applyMask_cmd (k : MaskIdx) : (s.applyMask k).cmd = s.cmd := rfl
@[simp] theorem State.applyMask_input (k : MaskIdx) : (s.applyMask k).input = s.input := rfl
@[simp] theorem State.applyMask_resp (k : MaskIdx) : (s.applyMask k).resp = s.resp := rfl

/-! ### Fault entry (R356), a fresh job (R331), reset (R390) -/

@[simp] theorem State.faultEntry_rom (c : FaultCode) (n : Nat) : (s.faultEntry c n).rom = s.rom := by
  unfold State.faultEntry; split <;> rfl
@[simp] theorem State.faultEntry_ds (c : FaultCode) (n : Nat) : (s.faultEntry c n).ds = s.ds := by
  unfold State.faultEntry; split <;> rfl
@[simp] theorem State.faultEntry_ms (c : FaultCode) (n : Nat) : (s.faultEntry c n).ms = s.ms := by
  unfold State.faultEntry; split <;> rfl
@[simp] theorem State.faultEntry_cc (c : FaultCode) (n : Nat) : (s.faultEntry c n).cc = s.cc := by
  unfold State.faultEntry; split <;> rfl
@[simp] theorem State.faultEntry_gfv (c : FaultCode) (n : Nat) : (s.faultEntry c n).gfv = s.gfv := by
  unfold State.faultEntry; split <;> rfl
@[simp] theorem State.faultEntry_tv (c : FaultCode) (n : Nat) : (s.faultEntry c n).tv = s.tv := by
  unfold State.faultEntry; split <;> rfl
@[simp] theorem State.faultEntry_tier (c : FaultCode) (n : Nat) : (s.faultEntry c n).tier = s.tier := by
  unfold State.faultEntry; split <;> rfl
@[simp] theorem State.faultEntry_size (c : FaultCode) (n : Nat) : (s.faultEntry c n).size = s.size := by
  unfold State.faultEntry; split <;> rfl
@[simp] theorem State.faultEntry_nblk (c : FaultCode) (n : Nat) : (s.faultEntry c n).nblk = s.nblk := by
  unfold State.faultEntry; split <;> rfl
@[simp] theorem State.faultEntry_evcnt (c : FaultCode) (n : Nat) : (s.faultEntry c n).evcnt = s.evcnt := by
  unfold State.faultEntry; split <;> rfl
@[simp] theorem State.faultEntry_tmask (c : FaultCode) (n : Nat) : (s.faultEntry c n).tmask = s.tmask := by
  unfold State.faultEntry; split <;> rfl
@[simp] theorem State.faultEntry_best (c : FaultCode) (n : Nat) : (s.faultEntry c n).best = s.best := by
  unfold State.faultEntry; split <;> rfl
@[simp] theorem State.faultEntry_bestScore (c : FaultCode) (n : Nat) : (s.faultEntry c n).bestScore = s.bestScore := by
  unfold State.faultEntry; split <;> rfl
@[simp] theorem State.faultEntry_nstamp (c : FaultCode) (n : Nat) : (s.faultEntry c n).nstamp = s.nstamp := by
  unfold State.faultEntry; split <;> rfl
@[simp] theorem State.faultEntry_poly (c : FaultCode) (n : Nat) : (s.faultEntry c n).poly = s.poly := by
  unfold State.faultEntry; split <;> rfl
@[simp] theorem State.faultEntry_text (c : FaultCode) (n : Nat) : (s.faultEntry c n).text = s.text := by
  unfold State.faultEntry; split <;> rfl
@[simp] theorem State.faultEntry_bits (c : FaultCode) (n : Nat) : (s.faultEntry c n).bits = s.bits := by
  unfold State.faultEntry; split <;> rfl
@[simp] theorem State.faultEntry_d (c : FaultCode) (n : Nat) : (s.faultEntry c n).d = s.d := by
  unfold State.faultEntry; split <;> rfl
@[simp] theorem State.faultEntry_e (c : FaultCode) (n : Nat) : (s.faultEntry c n).e = s.e := by
  unfold State.faultEntry; split <;> rfl
@[simp] theorem State.faultEntry_final (c : FaultCode) (n : Nat) : (s.faultEntry c n).final = s.final := by
  unfold State.faultEntry; split <;> rfl
@[simp] theorem State.faultEntry_g (c : FaultCode) (n : Nat) : (s.faultEntry c n).g = s.g := by
  unfold State.faultEntry; split <;> rfl
@[simp] theorem State.faultEntry_r (c : FaultCode) (n : Nat) : (s.faultEntry c n).r = s.r := by
  unfold State.faultEntry; split <;> rfl
@[simp] theorem State.faultEntry_t (c : FaultCode) (n : Nat) : (s.faultEntry c n).t = s.t := by
  unfold State.faultEntry; split <;> rfl
@[simp] theorem State.faultEntry_o (c : FaultCode) (n : Nat) : (s.faultEntry c n).o = s.o := by
  unfold State.faultEntry; split <;> rfl
@[simp] theorem State.faultEntry_score (c : FaultCode) (n : Nat) : (s.faultEntry c n).score = s.score := by
  unfold State.faultEntry; split <;> rfl
@[simp] theorem State.faultEntry_cmd (c : FaultCode) (n : Nat) : (s.faultEntry c n).cmd = s.cmd := by
  unfold State.faultEntry; split <;> rfl
@[simp] theorem State.faultEntry_input (c : FaultCode) (n : Nat) : (s.faultEntry c n).input = s.input := by
  unfold State.faultEntry; split <;> rfl
@[simp] theorem State.faultEntry_resp (c : FaultCode) (n : Nat) :
    (s.faultEntry c n).resp = some ⟨false, zext32 c.code⟩ := rfl
@[simp] theorem State.faultEntry_flt (c : FaultCode) (n : Nat) : (s.faultEntry c n).flt = true := by
  unfold State.faultEntry; split <;> simp_all
@[simp] theorem State.newJob_rom : s.newJob.rom = s.rom := rfl
@[simp] theorem State.newJob_ds : s.newJob.ds = State.reset.ds := rfl
@[simp] theorem State.newJob_ms : s.newJob.ms = State.reset.ms := rfl
@[simp] theorem State.newJob_cc : s.newJob.cc = s.cc := rfl
@[simp] theorem State.newJob_gfv : s.newJob.gfv = State.reset.gfv := rfl
@[simp] theorem State.newJob_flt : s.newJob.flt = State.reset.flt := rfl
@[simp] theorem State.newJob_tv : s.newJob.tv = State.reset.tv := rfl
@[simp] theorem State.newJob_err : s.newJob.err = State.reset.err := rfl
@[simp] theorem State.newJob_errInfo : s.newJob.errInfo = State.reset.errInfo := rfl
@[simp] theorem State.newJob_errCmd : s.newJob.errCmd = State.reset.errCmd := rfl
@[simp] theorem State.newJob_tier : s.newJob.tier = State.reset.tier := rfl
@[simp] theorem State.newJob_size : s.newJob.size = State.reset.size := rfl
@[simp] theorem State.newJob_nblk : s.newJob.nblk = State.reset.nblk := rfl
@[simp] theorem State.newJob_evcnt : s.newJob.evcnt = State.reset.evcnt := rfl
@[simp] theorem State.newJob_tmask : s.newJob.tmask = State.reset.tmask := rfl
@[simp] theorem State.newJob_best : s.newJob.best = State.reset.best := rfl
@[simp] theorem State.newJob_bestScore : s.newJob.bestScore = State.reset.bestScore := rfl
@[simp] theorem State.newJob_nstamp : s.newJob.nstamp = State.reset.nstamp := rfl
@[simp] theorem State.newJob_poly : s.newJob.poly = State.reset.poly := rfl
@[simp] theorem State.newJob_text : s.newJob.text = State.reset.text := rfl
@[simp] theorem State.newJob_bits : s.newJob.bits = State.reset.bits := rfl
@[simp] theorem State.newJob_d : s.newJob.d = State.reset.d := rfl
@[simp] theorem State.newJob_e : s.newJob.e = State.reset.e := rfl
@[simp] theorem State.newJob_final : s.newJob.final = State.reset.final := rfl
@[simp] theorem State.newJob_g : s.newJob.g = State.reset.g := rfl
@[simp] theorem State.newJob_r : s.newJob.r = State.reset.r := rfl
@[simp] theorem State.newJob_t : s.newJob.t = State.reset.t := rfl
@[simp] theorem State.newJob_o : s.newJob.o = State.reset.o := rfl
@[simp] theorem State.newJob_score : s.newJob.score = State.reset.score := rfl
@[simp] theorem State.newJob_cmd : s.newJob.cmd = s.cmd := rfl
@[simp] theorem State.newJob_input : s.newJob.input = s.input := rfl
@[simp] theorem State.newJob_resp : s.newJob.resp = s.resp := rfl
@[simp] theorem State.resetInput_rom (rest : List Input) : (s.resetInput rest).rom = State.reset.rom := rfl
@[simp] theorem State.resetInput_ds (rest : List Input) : (s.resetInput rest).ds = State.reset.ds := rfl
@[simp] theorem State.resetInput_ms (rest : List Input) : (s.resetInput rest).ms = State.reset.ms := rfl
@[simp] theorem State.resetInput_cc (rest : List Input) : (s.resetInput rest).cc = State.reset.cc := rfl
@[simp] theorem State.resetInput_gfv (rest : List Input) : (s.resetInput rest).gfv = State.reset.gfv := rfl
@[simp] theorem State.resetInput_flt (rest : List Input) : (s.resetInput rest).flt = State.reset.flt := rfl
@[simp] theorem State.resetInput_tv (rest : List Input) : (s.resetInput rest).tv = State.reset.tv := rfl
@[simp] theorem State.resetInput_err (rest : List Input) : (s.resetInput rest).err = State.reset.err := rfl
@[simp] theorem State.resetInput_errInfo (rest : List Input) : (s.resetInput rest).errInfo = State.reset.errInfo := rfl
@[simp] theorem State.resetInput_errCmd (rest : List Input) : (s.resetInput rest).errCmd = State.reset.errCmd := rfl
@[simp] theorem State.resetInput_tier (rest : List Input) : (s.resetInput rest).tier = State.reset.tier := rfl
@[simp] theorem State.resetInput_size (rest : List Input) : (s.resetInput rest).size = State.reset.size := rfl
@[simp] theorem State.resetInput_nblk (rest : List Input) : (s.resetInput rest).nblk = State.reset.nblk := rfl
@[simp] theorem State.resetInput_evcnt (rest : List Input) : (s.resetInput rest).evcnt = State.reset.evcnt := rfl
@[simp] theorem State.resetInput_tmask (rest : List Input) : (s.resetInput rest).tmask = State.reset.tmask := rfl
@[simp] theorem State.resetInput_best (rest : List Input) : (s.resetInput rest).best = State.reset.best := rfl
@[simp] theorem State.resetInput_bestScore (rest : List Input) : (s.resetInput rest).bestScore = State.reset.bestScore := rfl
@[simp] theorem State.resetInput_nstamp (rest : List Input) : (s.resetInput rest).nstamp = State.reset.nstamp := rfl
@[simp] theorem State.resetInput_poly (rest : List Input) : (s.resetInput rest).poly = State.reset.poly := rfl
@[simp] theorem State.resetInput_text (rest : List Input) : (s.resetInput rest).text = State.reset.text := rfl
@[simp] theorem State.resetInput_bits (rest : List Input) : (s.resetInput rest).bits = State.reset.bits := rfl
@[simp] theorem State.resetInput_d (rest : List Input) : (s.resetInput rest).d = State.reset.d := rfl
@[simp] theorem State.resetInput_e (rest : List Input) : (s.resetInput rest).e = State.reset.e := rfl
@[simp] theorem State.resetInput_final (rest : List Input) : (s.resetInput rest).final = State.reset.final := rfl
@[simp] theorem State.resetInput_g (rest : List Input) : (s.resetInput rest).g = State.reset.g := rfl
@[simp] theorem State.resetInput_r (rest : List Input) : (s.resetInput rest).r = State.reset.r := rfl
@[simp] theorem State.resetInput_t (rest : List Input) : (s.resetInput rest).t = State.reset.t := rfl
@[simp] theorem State.resetInput_o (rest : List Input) : (s.resetInput rest).o = State.reset.o := rfl
@[simp] theorem State.resetInput_score (rest : List Input) : (s.resetInput rest).score = State.reset.score := rfl
@[simp] theorem State.resetInput_cmd (rest : List Input) : (s.resetInput rest).cmd = State.reset.cmd := rfl
@[simp] theorem State.resetInput_input (rest : List Input) : (s.resetInput rest).input = rest := rfl
@[simp] theorem State.resetInput_resp (rest : List Input) : (s.resetInput rest).resp = State.reset.resp := rfl

end Sys2Proof.Machine
end

