-- ==== Sys2Proof/Laws/Memory.lean ====
section
/-! SUPPORT. The canonical form of the buffers, `Safety.memoryWf`: the memory after reset has it, and every operation that
writes a buffer keeps it (spec R11, R32, R84). -/

namespace Sys2Proof.Machine

open Sys2Proof.Safety

/-- The canonical form, clause by clause. -/
theorem memoryWf_iff (s : State) :
    memoryWf s = true ↔
      s.text.length ≤ 2048 ∧ s.bits.length ≤ 13328 ∧ s.final.length ≤ 29648 ∧
      s.d.length ≤ 68 ∧ (∀ b ∈ s.d, b.length ≤ 25) ∧ s.e.length ≤ 68 ∧ (∀ o ∈ s.e, (o.getD []).length ≤ 30) ∧
      s.poly.pa.length ≤ 256 ∧ s.poly.pb.length ≤ 256 ∧ s.poly.pq.length ≤ 256 ∧ s.poly.pr.length ≤ 256 ∧
      s.size ≤ 177 ∧ s.g.wf s.size = true ∧ s.r.wf s.size = true ∧
      (s.tv = true → s.t.wf s.size = true) ∧ (s.ms = .masked → s.o.wf s.size = true) := by
  have htv : (!s.tv || s.t.wf s.size) = true ↔ (s.tv = true → s.t.wf s.size = true) := by
    cases s.tv <;> simp
  have hms : (s.ms != .masked || s.o.wf s.size) = true ↔ (s.ms = .masked → s.o.wf s.size = true) := by
    rcases Decidable.em (s.ms = .masked) with h | h <;> simp [h]
  unfold memoryWf
  simp only [Bool.and_eq_true, decide_eq_true_eq, List.all_eq_true, htv, hms, and_assoc]
  exact Iff.rfl

theorem memoryWf_reset : memoryWf State.reset = true := by decide

/-- TEXT: appending a byte below the depth (R140). -/
theorem memoryWf_pushText {s : State} (h : memoryWf s = true) (a : Byte) (hlen : s.text.length < 2048) :
    memoryWf { s with text := s.text ++ [a] } = true := by
  rw [memoryWf_iff] at *
  exact ⟨by simp; omega, h.2⟩

/-- BITS: written whole or appended to, within the depth (R146, R147). -/
theorem memoryWf_writeBits {s : State} (h : memoryWf s = true) (bs : List Bool) (hlen : bs.length ≤ 13328) :
    memoryWf { s with bits := bs } = true := by
  rw [memoryWf_iff] at *
  exact ⟨h.1, hlen, h.2.2⟩

/-- D and E: the blocks of RS.SPLIT, no redundancy computed (R223). -/
theorem memoryWf_writeBlocks {s : State} (h : memoryWf s = true) (blocks : List (List Byte)) (n : Nat)
    (hn : n ≤ 68) (hcount : blocks.length ≤ 68) (hlens : ∀ b ∈ blocks, b.length ≤ 25) :
    memoryWf { s with d := blocks, e := List.replicate n none } = true := by
  rw [memoryWf_iff] at *
  refine ⟨h.1, h.2.1, h.2.2.1, hcount, hlens, by simpa using hn, fun o ho => ?_, h.2.2.2.2.2.2.2⟩
  rw [List.eq_of_mem_replicate ho]
  exact Nat.zero_le _

/-- E: the redundancy of one block (R224). -/
theorem memoryWf_setRedundancy {s : State} (h : memoryWf s = true) (b : Nat) (ws : List Byte) (hlen : ws.length ≤ 30) :
    memoryWf (s.setRedundancy b ws) = true := by
  rw [memoryWf_iff] at *
  refine ⟨h.1, h.2.1, h.2.2.1, h.2.2.2.1, h.2.2.2.2.1, by simpa using h.2.2.2.2.2.1, fun o ho => ?_, h.2.2.2.2.2.2.2⟩
  rcases List.mem_or_eq_of_mem_set ho with hin | rfl
  · exact h.2.2.2.2.2.2.1 o hin
  · exact hlen

/-- FINAL: written whole (R227). -/
theorem memoryWf_writeFinal {s : State} (h : memoryWf s = true) (f : List Bool) (hlen : f.length ≤ 29648) :
    memoryWf { s with final := f } = true := by
  rw [memoryWf_iff] at *
  exact ⟨h.1, h.2.1, hlen, h.2.2.2⟩

/-- A polynomial register (R30). -/
theorem memoryWf_writePoly {s : State} (h : memoryWf s = true) (p : PolyReg) (c : List Byte) (hlen : c.length ≤ 256) :
    memoryWf (s.writePoly p c) = true := by
  rw [memoryWf_iff] at *
  obtain ⟨h1, h2, h3, h4, h5, h6, h7, ha, hb, hq, hr, hrest⟩ := h
  cases p
  · exact ⟨h1, h2, h3, h4, h5, h6, h7, hlen, hb, hq, hr, hrest⟩
  · exact ⟨h1, h2, h3, h4, h5, h6, h7, ha, hlen, hq, hr, hrest⟩
  · exact ⟨h1, h2, h3, h4, h5, h6, h7, ha, hb, hlen, hr, hrest⟩
  · exact ⟨h1, h2, h3, h4, h5, h6, h7, ha, hb, hq, hlen, hrest⟩

/-- G and R: a blank grid, before any trial grid (R252). -/
theorem memoryWf_alloc {s : State} (h : memoryWf s = true) (n : Nat) (hn : n ≤ 177) (htv : s.tv = false) :
    memoryWf { s with g := .blank n, r := .blank n, size := n, ms := .alloc } = true := by
  rw [memoryWf_iff] at *
  obtain ⟨h1, h2, h3, h4, h5, h6, h7, ha, hb, hq, hr, -⟩ := h
  refine ⟨h1, h2, h3, h4, h5, h6, h7, ha, hb, hq, hr, hn, Grid.wf_blank n, Grid.wf_blank n, ?_, ?_⟩
  · intro ht; rw [show s.tv = true from ht] at htv; cases htv
  · intro ht; cases ht

/-- G and R: stamping (R251). -/
theorem memoryWf_stamp {s : State} (h : memoryWf s = true) (cells : List (Cell × Bool)) : memoryWf (s.stamp cells) = true := by
  rw [memoryWf_iff] at *
  obtain ⟨h1, h2, h3, h4, h5, h6, h7, ha, hb, hq, hr, hs, hg, hR, hrest⟩ := h
  exact ⟨h1, h2, h3, h4, h5, h6, h7, ha, hb, hq, hr, hs, Grid.wf_setAll hg _, Grid.wf_setAll hR _, hrest⟩

/-- R: reserving (R251). -/
theorem memoryWf_reserve {s : State} (h : memoryWf s = true) (cells : List Cell) : memoryWf (s.reserve cells) = true := by
  rw [memoryWf_iff] at *
  obtain ⟨h1, h2, h3, h4, h5, h6, h7, ha, hb, hq, hr, hs, hg, hR, hrest⟩ := h
  exact ⟨h1, h2, h3, h4, h5, h6, h7, ha, hb, hq, hr, hs, hg, Grid.wf_setAll hR _, hrest⟩

/-- G: placing the bits (R261). -/
theorem memoryWf_place {s : State} (h : memoryWf s = true) (ws : List (Cell × Bool)) :
    memoryWf { s with g := s.g.setAll ws } = true := by
  rw [memoryWf_iff] at *
  obtain ⟨h1, h2, h3, h4, h5, h6, h7, ha, hb, hq, hr, hs, hg, hrest⟩ := h
  exact ⟨h1, h2, h3, h4, h5, h6, h7, ha, hb, hq, hr, hs, Grid.wf_setAll hg _, hrest⟩

/-- T: the trial grid (R294). -/
theorem memoryWf_applyMask {s : State} (h : memoryWf s = true) (k : MaskIdx) : memoryWf (s.applyMask k) = true := by
  rw [memoryWf_iff] at *
  obtain ⟨h1, h2, h3, h4, h5, h6, h7, ha, hb, hq, hr, hs, hg, hR, -, ho⟩ := h
  exact ⟨h1, h2, h3, h4, h5, h6, h7, ha, hb, hq, hr, hs, hg, hR, fun _ => Grid.wf_tabulate _ _, ho⟩

/-- O: keeping the trial grid (R305). -/
theorem memoryWf_keepTrial {s : State} (h : memoryWf s = true) (htv : s.tv = true) :
    memoryWf { s with o := s.t, ms := .masked } = true := by
  rw [memoryWf_iff] at *
  obtain ⟨h1, h2, h3, h4, h5, h6, h7, ha, hb, hq, hr, hs, hg, hR, ht, -⟩ := h
  exact ⟨h1, h2, h3, h4, h5, h6, h7, ha, hb, hq, hr, hs, hg, hR, ht, fun _ => ht htv⟩

/-- SCORE is no part of the form: its eight elements are there by its type (R32). -/
theorem memoryWf_setScore {s : State} (h : memoryWf s = true) (k : MaskIdx) (v : Nat) : memoryWf (s.setScore k v) = true := h

end Sys2Proof.Machine
end

