-- ==== Sys2Proof/Laws/Ops.lean ====
section
/-! SUPPORT. What the shared operations of Machine/Ops.lean can do, each said once: running a command's operation, fault
entry, the chaining of a macro command's constituents, illegal words. -/

namespace Sys2Proof.Machine

open Sys2Proof.Safety

/-! ### Views -/

theorem State.block_eq (s : State) (b : Nat) : s.block b = s.d.getD b [] := rfl

theorem State.redundancy_eq (s : State) (b : Nat) : s.redundancy b = s.e.getD b none := rfl

theorem State.ev_iff (s : State) (b : Nat) : s.ev b = true ↔ ∃ ws, s.e[b]? = some (some ws) := by
  unfold State.ev State.redundancy
  rw [List.getD_eq_getElem?_getD]
  cases s.e[b]? with
  | none => simp
  | some o => cases o <;> simp

/-! ### Fault entry -/

theorem faultEntry_of_live {s : State} (h : live s) (c : FaultCode) (n : Nat) :
    s.faultEntry c n = trapped c n s := by
  unfold State.faultEntry
  simp only [show s.flt = false from h]
  rfl

theorem faultEntry_of_dead {s : State} (h : s.flt = true) (c : FaultCode) (n : Nat) :
    s.faultEntry c n = { s with resp := failed c } := by
  unfold State.faultEntry
  rw [if_pos h]
  rfl

theorem deadAnswer_eq (s : State) : s.deadAnswer = { s with resp := failed .sequenceError } := rfl

theorem complete_eq (s : State) (v : Nat) : s.complete v = { s with resp := ok v } := rfl

/-! ### Running an operation -/

@[simp] theorem settle_done (s : State) (v : Nat) : (Result.done s v).settle = s.complete v := rfl

@[simp] theorem settle_raised (s : State) (c : FaultCode) (n : Nat) : (Result.raised s c n).settle = s.faultEntry c n := rfl

@[simp] theorem settle_seqError (s : State) : (seqError s).settle = s.faultEntry .sequenceError s.seqInfo := rfl

@[simp] theorem settle_rangeError (n : Nat) (s : State) : (rangeError n s).settle = s.faultEntry .rangeError n := rfl

theorem runLive_of_live {s : State} (h : live s) (op : State → Result) : runLive op s = .next (op s).settle := by
  unfold runLive
  simp only [show s.flt = false from h]
  rfl

theorem runLive_of_dead {s : State} (h : s.flt = true) (op : State → Result) :
    runLive op s = .next { s with resp := failed .sequenceError } := by
  unfold runLive
  rw [if_pos h]
  rfl

theorem runLive_done {s t : State} {op : State → Result} {v : Nat} (h : live s) (hop : op s = .done t v) :
    runLive op s = .next { t with resp := ok v } := by
  rw [runLive_of_live h, hop]
  rfl

theorem runLive_raised {s : State} {op : State → Result} {c : FaultCode} {n : Nat} (h : live s)
    (hop : op s = .raised s c n) : runLive op s = .next (trapped c n s) := by
  rw [runLive_of_live h, hop, settle_raised, faultEntry_of_live h]

theorem runAlways_done {s t : State} {op : State → Result} {v : Nat} (hop : op s = .done t v) :
    runAlways op s = .next { t with resp := ok v } := by
  unfold runAlways
  rw [hop]
  rfl

/-- All that a command a dead job refuses can do. -/
theorem runLive_cases {s t : State} {op : State → Result} (h : runLive op s = .next t) :
    (s.flt = true ∧ t = s.deadAnswer) ∨ (live s ∧ ∃ u v, op s = .done u v ∧ t = u.complete v) ∨
    (live s ∧ ∃ u c n, op s = .raised u c n ∧ t = u.faultEntry c n) := by
  unfold runLive at h
  split at h
  case isTrue hf => exact .inl ⟨hf, (Host.Outcome.next.inj h).symm⟩
  case isFalse hf =>
    have hlive : live s := by simpa using hf
    cases hop : op s with
    | done u v => exact .inr (.inl ⟨hlive, u, v, rfl, by rw [hop] at h; exact (Host.Outcome.next.inj h).symm⟩)
    | raised u c n => exact .inr (.inr ⟨hlive, u, c, n, rfl, by rw [hop] at h; exact (Host.Outcome.next.inj h).symm⟩)

/-- All that a command a dead job executes can do. -/
theorem runAlways_cases {s t : State} {op : State → Result} (h : runAlways op s = .next t) :
    (∃ u v, op s = .done u v ∧ t = { u with resp := ok v }) ∨ (∃ u c n, op s = .raised u c n ∧ t = u.faultEntry c n) := by
  unfold runAlways at h
  cases hop : op s with
  | done u v => exact .inl ⟨u, v, rfl, by rw [hop] at h; exact (Host.Outcome.next.inj h).symm⟩
  | raised u c n => exact .inr ⟨u, c, n, rfl, by rw [hop] at h; exact (Host.Outcome.next.inj h).symm⟩

/-! ### Macro commands -/

@[simp] theorem andThen_done (s : State) (v : Nat) (k : State → Result) : (Result.done s v).andThen k = k s := rfl

@[simp] theorem andThen_raised (s : State) (c : FaultCode) (n : Nat) (k : State → Result) :
    (Result.raised s c n).andThen k = .raised s c n := rfl

@[simp] theorem respond_done (s : State) (v : Nat) (f : State → Nat) : (Result.done s v).respond f = .done s (f s) := rfl

@[simp] theorem respond_raised (s : State) (c : FaultCode) (n : Nat) (f : State → Nat) :
    (Result.raised s c n).respond f = .raised s c n := rfl

/-- Chaining is associative: the constituents of a constituent are constituents of the macro command. -/
theorem andThen_assoc (r : Result) (f g : State → Result) :
    (r.andThen f).andThen g = r.andThen fun s => (f s).andThen g := by cases r <;> rfl

/-- A constituent's own response does not matter to the ones after it. -/
theorem respond_andThen (r : Result) (f : State → Nat) (g : State → Result) :
    (r.respond f).andThen g = r.andThen g := by cases r <;> rfl

/-- The state a result carries, completed or not. -/
def Result.state : Result → State
  | .done s _ => s
  | .raised s _ _ => s

@[simp] theorem state_done (s : State) (v : Nat) : (Result.done s v).state = s := rfl

@[simp] theorem state_raised (s : State) (c : FaultCode) (n : Nat) : (Result.raised s c n).state = s := rfl

/-- A property of states that every constituent keeps, the chain keeps. -/
theorem andThen_keeps {P : State → Prop} {r : Result} {k : State → Result} (h : P r.state)
    (hk : ∀ s, P s → P (k s).state) : P (r.andThen k).state := by
  cases r with
  | done s v => exact hk s h
  | raised s c n => exact h

theorem respond_state (r : Result) (f : State → Nat) : (r.respond f).state = r.state := by cases r <;> rfl

/-- A property of states that does not look at the fault registers and the response survives the settling of a result. -/
theorem settle_keeps {P : State → Prop} (r : Result) (h : P r.state)
    (hresp : ∀ s a, P s → P (s.respondWith a)) (hrec : ∀ s c n, P s → P (s.recordFault c n)) : P r.settle := by
  cases r with
  | done u v => exact hresp u ⟨true, zext32 v⟩ h
  | raised u c n =>
    show P (u.faultEntry c n)
    unfold State.faultEntry
    split
    · exact hresp u ⟨false, zext32 c.code⟩ h
    · exact hresp (u.recordFault c n) ⟨false, zext32 c.code⟩ (hrec u c n h)

/-! ### Every command answers a next state -/

theorem runLive_next (op : State → Result) (s : State) : ∃ t, runLive op s = .next t := by
  unfold runLive; split <;> exact ⟨_, rfl⟩

theorem runAlways_next (op : State → Result) (s : State) : ∃ t, runAlways op s = .next t := ⟨_, rfl⟩

/-! ### Illegal words -/

theorem illegalWord_of_live {s : State} (h : live s) (w : Word) (e : DecodeError) :
    s.illegalWord w e = trapped .illegalCommand (DecodeError.info e) s := by
  unfold State.illegalWord
  simp only [show s.flt = false from h]
  exact faultEntry_of_live h _ _

theorem illegalWord_of_dead {s : State} (h : s.flt = true) (w : Word) (e : DecodeError) :
    s.illegalWord w e = { s with resp := failed (if exemptOpcode w then .illegalCommand else .sequenceError) } := by
  unfold State.illegalWord
  rw [faultEntry_of_dead h, deadAnswer_eq]
  cases hx : exemptOpcode w with
  | true => rw [if_neg (by simp)]; rfl
  | false => rw [if_pos (by simp [h])]; rfl

end Sys2Proof.Machine
end

