-- ==== Sys2Proof/Laws/PerInstr.lean ====
section
/-! SUPPORT. Statements made of every instruction, one lemma per constructor: the word of a command is a legal command word,
a listed opcode with the bits its format leaves unused zero (spec R111, R113, R114), whatever its operands (R116). -/

namespace Sys2Proof.Laws.EncodesLegal

open Sys2Proof

/-- The word of the command is a legal command word. -/
def Statement (i : Instr) : Prop := WellFormed.legalWord (encode i) = true

theorem nop : Statement .nop := legalWord_z (by decide)
theorem jobNew : Statement .jobNew := legalWord_z (by decide)
theorem srRd (p : Byte) : Statement (.srRd p) := legalWord_a (by decide)
theorem encodeJob : Statement .encodeJob := legalWord_z (by decide)
theorem tblRd (p q r : Byte) : Statement (.tblRd p q r) := legalWord_abc (by decide)
theorem txtPush (p : Byte) : Statement (.txtPush p) := legalWord_a (by decide)
theorem txtRd (imm : Half) : Statement (.txtRd imm) := legalWord_i (by decide)
theorem vsel : Statement .vsel := legalWord_z (by decide)
theorem vset (p : Byte) : Statement (.vset p) := legalWord_a (by decide)
theorem bsb : Statement .bsb := legalWord_z (by decide)
theorem dcwPush (p : Byte) : Statement (.dcwPush p) := legalWord_a (by decide)
theorem dcwSeal : Statement .dcwSeal := legalWord_z (by decide)
theorem bitsRd (p : Byte) (imm : Half) : Statement (.bitsRd p imm) := legalWord_ai (by decide)
theorem bitsRdb (p : Byte) (imm : Half) : Statement (.bitsRdb p imm) := legalWord_ai (by decide)
theorem gfExp (p : Byte) : Statement (.gfExp p) := legalWord_a (by decide)
theorem gfLog (p : Byte) : Statement (.gfLog p) := legalWord_a (by decide)
theorem gfMul (p q : Byte) : Statement (.gfMul p q) := legalWord_ab (by decide)
theorem gfAdd (p q : Byte) : Statement (.gfAdd p q) := legalWord_ab (by decide)
theorem pClr (p : Byte) : Statement (.pClr p) := legalWord_a (by decide)
theorem pPush (p q : Byte) : Statement (.pPush p q) := legalWord_ab (by decide)
theorem pRd (p q : Byte) : Statement (.pRd p q) := legalWord_ab (by decide)
theorem pLen (p : Byte) : Statement (.pLen p) := legalWord_a (by decide)
theorem pMul : Statement .pMul := legalWord_z (by decide)
theorem pDiv : Statement .pDiv := legalWord_z (by decide)
theorem pGen (p : Byte) : Statement (.pGen p) := legalWord_a (by decide)
theorem pSyn (p : Byte) : Statement (.pSyn p) := legalWord_a (by decide)
theorem pMov (p q : Byte) : Statement (.pMov p q) := legalWord_ab (by decide)
theorem rsSplit : Statement .rsSplit := legalWord_z (by decide)
theorem rsEcc (p : Byte) : Statement (.rsEcc p) := legalWord_a (by decide)
theorem rsEccAll : Statement .rsEccAll := legalWord_z (by decide)
theorem rsSyn (p : Byte) : Statement (.rsSyn p) := legalWord_a (by decide)
theorem rsIlv : Statement .rsIlv := legalWord_z (by decide)
theorem rsRdd (p q : Byte) : Statement (.rsRdd p q) := legalWord_ab (by decide)
theorem rsRde (p q : Byte) : Statement (.rsRde p q) := legalWord_ab (by decide)
theorem mxAlloc : Statement .mxAlloc := legalWord_z (by decide)
theorem mxFind : Statement .mxFind := legalWord_z (by decide)
theorem mxSep : Statement .mxSep := legalWord_z (by decide)
theorem mxAlign : Statement .mxAlign := legalWord_z (by decide)
theorem mxTiming : Statement .mxTiming := legalWord_z (by decide)
theorem mxDark : Statement .mxDark := legalWord_z (by decide)
theorem mxFmt : Statement .mxFmt := legalWord_z (by decide)
theorem mxPlace : Statement .mxPlace := legalWord_z (by decide)
theorem mxFixed : Statement .mxFixed := legalWord_z (by decide)
theorem mxBuild : Statement .mxBuild := legalWord_z (by decide)
theorem gridRd (p q r : Byte) : Statement (.gridRd p q r) := legalWord_abc (by decide)
theorem mkBit (p q r : Byte) : Statement (.mkBit p q r) := legalWord_abc (by decide)
theorem mkApply (p : Byte) : Statement (.mkApply p) := legalWord_a (by decide)
theorem mkP1 : Statement .mkP1 := legalWord_z (by decide)
theorem mkP2 : Statement .mkP2 := legalWord_z (by decide)
theorem mkP3 : Statement .mkP3 := legalWord_z (by decide)
theorem mkP4 : Statement .mkP4 := legalWord_z (by decide)
theorem mkScore : Statement .mkScore := legalWord_z (by decide)
theorem mkTryall : Statement .mkTryall := legalWord_z (by decide)
theorem mkRds (p : Byte) : Statement (.mkRds p) := legalWord_a (by decide)

end Sys2Proof.Laws.EncodesLegal
end

