-- ==== Sys2Proof/Tests/Slice0.lean ====
section
/-! SUPPORT. Tests of the model: expected values from the examples of the command rules and from spec/95_test_vectors.md,
and for every statement a state that meets its hypotheses. -/

namespace Sys2Proof.Tests

/-! One theorem after another, so that the kernel's evaluations do not pile up. -/
set_option Elab.async false

open Sys2Proof Sys2Proof.Machine Sys2Proof.Safety

/-! ### Helpers -/

/-- The state some commands, all completing, leave. -/
def after (cmds : List Instr) (s : State) : State := (execAll cmds s).getD s

/-- The response to a command. -/
def answer (i : Instr) (s : State) : Option Response :=
  match exec i s with
  | .next t => t.resp
  | .fault _ => none
  | .refused _ => none

/-- A fresh job. -/
abbrev fresh : State := State.reset

/-- A dead job: the exponent of 0 has been asked for (R177). -/
def dead : State := trapped .fieldLookupFailure 0 { fresh with cmd := 0x21000000 }

/-- The text "HELLO" (R146). -/
def hello : List Byte := [0x48, 0x45, 0x4C, 0x4C, 0x4F]

/-- A fresh job with the text "HELLO". -/
def helloText : State := { fresh with text := hello }

/-- "HELLO" at tier 1, padded. -/
def helloPadded : State := after [.vsel, .bsb] helloText

/-- "HELLO", split. -/
def helloSplit : State := after [.rsSplit] helloPadded

/-- "HELLO", redundancy done. -/
def helloEcc : State := after [.rsEccAll] helloSplit

/-- "HELLO", interleaved. -/
def helloFinal : State := after [.rsIlv] helloEcc

/-- "HELLO", its grid built. -/
def helloBuilt : State := after [.mxBuild] helloFinal

/-- A tier forced, no text. -/
def tier (v : Byte) : State := after [.vset v] fresh

/-! ### Well-formedness -/

theorem test_wellFormed_accepts :
    Instr.wellFormed (.vset 40) = true ∧ Instr.wellFormed (.srRd 15) = true ∧ Instr.wellFormed (.tblRd 1 11 0) = true ∧
    Instr.wellFormed (.pMov 3 0) = true ∧ Instr.wellFormed (.mkRds 7) = true := by decide

theorem test_wellFormed_refuses :
    Instr.wellFormed (.srRd 16) = false ∧ Instr.wellFormed (.tblRd 0 0 0) = false ∧ Instr.wellFormed (.tblRd 1 12 0) = false ∧
    Instr.wellFormed (.vset 0) = false ∧ Instr.wellFormed (.vset 41) = false ∧ Instr.wellFormed (.bitsRd 2 0) = false ∧
    Instr.wellFormed (.bitsRdb 2 0) = false ∧ Instr.wellFormed (.pClr 4) = false ∧ Instr.wellFormed (.pPush 4 0) = false ∧
    Instr.wellFormed (.pRd 4 0) = false ∧ Instr.wellFormed (.pLen 4) = false ∧ Instr.wellFormed (.pMov 4 0) = false ∧
    Instr.wellFormed (.pMov 0 4) = false ∧ Instr.wellFormed (.gridRd 4 0 0) = false ∧
    Instr.wellFormed (.mkBit 8 0 0) = false ∧ Instr.wellFormed (.mkApply 8) = false ∧ Instr.wellFormed (.mkRds 8) = false := by
  decide

theorem test_legalWord_refuses :
    WellFormed.legalWord 0x05000000 = false ∧ WellFormed.legalWord 0xFF000000 = false ∧
    WellFormed.legalWord 0x12000100 = false ∧ WellFormed.legalWord 0x10480001 = false ∧
    WellFormed.legalWord 0x22010203 = false ∧ WellFormed.legalWord 0x11010000 = false ∧
    WellFormed.legalWord 0x5A03080D = true := by decide

/-! ### Decoding: words written from R113 and R111, every constructor -/

theorem test_decode_system :
    decodeTableWord 32 0x00000000 = some .nop ∧ decodeTableWord 32 0x01000000 = some .jobNew ∧
    decodeTableWord 32 0x020E0000 = some (.srRd 14) ∧ decodeTableWord 32 0x03000000 = some .encodeJob ∧
    decodeTableWord 32 0x04070902 = some (.tblRd 7 9 2) := by decide

theorem test_decode_frontEnd :
    decodeTableWord 32 0x10480000 = some (.txtPush 0x48) ∧ decodeTableWord 32 0x11000123 = some (.txtRd 0x123) ∧
    decodeTableWord 32 0x12000000 = some .vsel ∧ decodeTableWord 32 0x13070000 = some (.vset 7) ∧
    decodeTableWord 32 0x14000000 = some .bsb ∧ decodeTableWord 32 0x15400000 = some (.dcwPush 0x40) ∧
    decodeTableWord 32 0x16000000 = some .dcwSeal ∧ decodeTableWord 32 0x17010203 = some (.bitsRd 1 0x203) ∧
    decodeTableWord 32 0x18000001 = some (.bitsRdb 0 1) := by decide

theorem test_decode_field :
    decodeTableWord 32 0x20080000 = some (.gfExp 8) ∧ decodeTableWord 32 0x211D0000 = some (.gfLog 29) ∧
    decodeTableWord 32 0x22028000 = some (.gfMul 2 128) ∧ decodeTableWord 32 0x2353CA00 = some (.gfAdd 0x53 0xCA) := by decide

theorem test_decode_poly :
    decodeTableWord 32 0x30020000 = some (.pClr 2) ∧ decodeTableWord 32 0x31001200 = some (.pPush 0 0x12) ∧
    decodeTableWord 32 0x32030500 = some (.pRd 3 5) ∧ decodeTableWord 32 0x33030000 = some (.pLen 3) ∧
    decodeTableWord 32 0x34000000 = some .pMul ∧ decodeTableWord 32 0x35000000 = some .pDiv ∧
    decodeTableWord 32 0x36020000 = some (.pGen 2) ∧ decodeTableWord 32 0x37020000 = some (.pSyn 2) ∧
    decodeTableWord 32 0x38010300 = some (.pMov 1 3) := by decide

theorem test_decode_reedSolomon :
    decodeTableWord 32 0x40000000 = some .rsSplit ∧ decodeTableWord 32 0x41030000 = some (.rsEcc 3) ∧
    decodeTableWord 32 0x42000000 = some .rsEccAll ∧ decodeTableWord 32 0x43010000 = some (.rsSyn 1) ∧
    decodeTableWord 32 0x44000000 = some .rsIlv ∧ decodeTableWord 32 0x45020F00 = some (.rsRdd 2 15) ∧
    decodeTableWord 32 0x46000D00 = some (.rsRde 0 13) := by decide

theorem test_decode_matrix :
    decodeTableWord 32 0x50000000 = some .mxAlloc ∧ decodeTableWord 32 0x51000000 = some .mxFind ∧
    decodeTableWord 32 0x52000000 = some .mxSep ∧ decodeTableWord 32 0x53000000 = some .mxAlign ∧
    decodeTableWord 32 0x54000000 = some .mxTiming ∧ decodeTableWord 32 0x55000000 = some .mxDark ∧
    decodeTableWord 32 0x56000000 = some .mxFmt ∧ decodeTableWord 32 0x57000000 = some .mxPlace ∧
    decodeTableWord 32 0x58000000 = some .mxFixed ∧ decodeTableWord 32 0x59000000 = some .mxBuild ∧
    decodeTableWord 32 0x5A03080D = some (.gridRd 3 8 13) := by decide

theorem test_decode_mask :
    decodeTableWord 32 0x60040201 = some (.mkBit 4 2 1) ∧ decodeTableWord 32 0x61050000 = some (.mkApply 5) ∧
    decodeTableWord 32 0x62000000 = some .mkP1 ∧ decodeTableWord 32 0x63000000 = some .mkP2 ∧
    decodeTableWord 32 0x64000000 = some .mkP3 ∧ decodeTableWord 32 0x65000000 = some .mkP4 ∧
    decodeTableWord 32 0x66000000 = some .mkScore ∧ decodeTableWord 32 0x67000000 = some .mkTryall ∧
    decodeTableWord 32 0x68040000 = some (.mkRds 4) := by decide

theorem test_decode_refuses :
    decodeTableWord 32 0x05000000 = none ∧ decodeTableWord 32 0x5B000000 = none ∧ decodeTableWord 32 0x69000000 = none ∧
    decodeTableWord 32 0x00000001 = none ∧ decodeTableWord 32 0x10480100 = none ∧ decodeTableWord 32 0x31001201 = none ∧
    decodeTableWord 32 0x11010000 = none := by decide

/-! ### Assembler text (R118) -/

theorem test_asm :
    parseLine "TXT.PUSH 'H'" = some (some (.txtPush 0x48)) ∧ parseLine "GRID.RD 3, 8, 13 ; the dark module" = some (some (.gridRd 3 8 13)) ∧
    parseLine "BITS.RDB 1, 25" = some (some (.bitsRdb 1 25)) ∧ parseLine "GF.ADD 0x53, 0xCA" = some (some (.gfAdd 0x53 0xCA)) ∧
    parseLine "; a comment" = some none ∧ parseLine "VSET 256" = none := by decide

theorem test_pseudo :
    encodeStr [0x48] = [0x01000000, 0x10480000, 0x03000000] ∧ pLoad 1 [1, 2] = [0x30010000, 0x31010100, 0x31010200] ∧
    dcwStr [0x40] = [0x15400000] ∧ repeatWords 2 [0x54000000] = [0x54000000, 0x54000000] := by decide

/-! ### The step, faults, the dead job -/

theorem test_step_counts : (match step { fresh with input := [.command 0x00000000, .reset], cc := 0xFFFFFFFF } with
    | .next t => (t.cc, t.input, t.resp)
    | _ => (1, [], none)) = (0, [.reset], ok 0) := by decide

theorem test_step_illegal : (match step { fresh with input := [.command 0x12000100] } with
    | .next t => (t.err, t.errInfo, t.errCmd, t.resp)
    | _ => (none, 0, 0, none)) = (some .illegalCommand, 2, 0x12000100, failed .illegalCommand) := by decide

theorem test_step_idle_and_reset : (match step dead, step { dead with input := [.resetDuring 0x03000000] } with
    | .next t, .next u => (t.flt, u.flt, u.cc)
    | _, _ => (false, true, 1)) = (true, false, 0) := by decide

theorem test_withFetchWord : (match step (fresh.withFetchWord 32 0x13070000) with
    | .next t => (t.tier, t.resp)
    | _ => (0, none)) = (7, ok 7) := by decide

theorem test_dead_job :
    answer (.gfExp 1) dead = failed .sequenceError ∧ answer (.srRd 1) dead = ok 3 ∧ answer (.srRd 3) dead = ok 0x21000000 ∧
    answer (.srRd 16) dead = failed .rangeError ∧ answer .jobNew dead = ok 0 := by decide

/-! ### System commands -/

theorem test_nop : exec .nop fresh = .next { fresh with resp := ok 0 } := rfl

theorem test_jobNew_status : answer (.srRd 0) (after [.jobNew] helloPadded) = ok 0x00000001 := by decide +kernel

theorem test_srRd_status : answer (.srRd 0) helloFinal = ok 0x00000051 := by decide +kernel

theorem test_encode_too_long : (match exec .encodeJob { fresh with text := List.replicate 1664 0x41, cmd := 0x03000000 } with
    | .next t => (t.resp, t.errInfo, t.errCmd, t.ds)
    | _ => (none, 0, 0, .final)) = (failed .capacityExceeded, 1664, 0x03000000, .text) := by decide +kernel

theorem test_tblRd :
    answer (.tblRd 12 0 0) fresh = ok 203 ∧ answer (.tblRd 7 9 2) fresh = ok 38 ∧ answer (.tblRd 5 5 0) fresh = ok 2 ∧
    answer (.tblRd 10 11 0) fresh = ok 16 ∧ answer (.tblRd 7 9 3) fresh = failed .rangeError ∧
    answer (.tblRd 1 9 0) fresh = failed .rangeError := by decide

/-! ### Front end -/

theorem test_txt : answer (.txtRd 0) (after [.txtPush 0x48] fresh) = ok 0x48 ∧
    answer (.txtRd 1) (after [.txtPush 0x48] fresh) = failed .rangeError := by decide

theorem test_vsel : answer .vsel helloText = ok 1 ∧ answer .vsel { fresh with text := List.replicate 200 0x41 } = ok 12 := by
  decide +kernel

theorem test_vset : (after [.vset 7] fresh).tier = 7 ∧ answer (.vset 41) fresh = failed .rangeError := by decide

theorem test_bsb_hello : dataCodewords helloPadded.bits 13 =
    [0x40, 0x54, 0x84, 0x54, 0xC4, 0xC4, 0xF0, 0xEC, 0x11, 0xEC, 0x11, 0xEC, 0x11] := by decide +kernel

theorem test_bsb_empty : dataCodewords (after [.vsel, .bsb] fresh).bits 13 =
    [0x40, 0x00, 0xEC, 0x11, 0xEC, 0x11, 0xEC, 0x11, 0xEC, 0x11, 0xEC, 0x11, 0xEC] := by decide +kernel

theorem test_dcwPush : (after [.dcwPush 0x40] (tier 1)).bits = [false, true, false, false, false, false, false, false] := by decide

theorem test_dcwSeal : answer .dcwSeal { tier 1 with bits := List.replicate 96 false } = failed .lengthError ∧
    answer .dcwSeal { tier 1 with bits := List.replicate 104 false } = ok 104 := by decide +kernel

theorem test_bits : answer (.bitsRd 0 1) helloPadded = ok 1 ∧ answer (.bitsRd 0 104) helloPadded = failed .rangeError ∧
    answer (.bitsRdb 0 1) helloPadded = ok 0x54 ∧ answer (.bitsRdb 0 13) helloPadded = failed .rangeError := by decide +kernel

/-! ### Field unit -/

theorem test_gf :
    answer (.gfExp 8) fresh = ok 29 ∧ answer (.gfExp 255) fresh = ok 1 ∧ answer (.gfLog 29) fresh = ok 8 ∧
    answer (.gfLog 0) fresh = failed .fieldLookupFailure ∧ answer (.gfMul 2 128) fresh = ok 29 ∧
    answer (.gfMul 255 255) fresh = ok 226 ∧ answer (.gfAdd 0x53 0xCA) fresh = ok 0x99 := by decide +kernel

/-! ### Polynomial unit -/

/-- A job with polynomials in PA and PB. -/
def polys (a b : Poly) : State := { fresh with poly := ⟨a, b, [], []⟩ }

theorem test_pRegisters :
    polyRegs (after [.pPush 0 0x12] (polys [7] [])) = [[7, 0x12], [], [], []] ∧
    polyRegs (after [.pClr 0] (polys [7] [1])) = [[], [1], [], []] ∧
    answer (.pRd 0 0) (polys [0x12] []) = ok 0x12 ∧ answer (.pRd 0 1) (polys [0x12] []) = failed .rangeError ∧
    answer (.pLen 3) fresh = ok 0 ∧ polyRegs (after [.pMov 2 1] (polys [7] [1, 2])) = [[7], [1, 2], [1, 2], []] := by decide

theorem test_pMul : (after [.pMul] (polys [1, 1] [1, 2])).poly.pr = [1, 3, 2] := by decide +kernel

theorem test_pDiv :
    (after [.pDiv] (polys [0, 0, 5, 0] [2, 1])).poly = ⟨[0, 0, 5, 0], [2, 1], [0, 0, 140], [140]⟩ ∧
    (after [.pDiv] (polys [5] [1, 2, 3])).poly = ⟨[5], [1, 2, 3], [], [0, 5]⟩ ∧
    (after [.pDiv] (polys [1, 2, 3] [7])).poly = ⟨[1, 2, 3], [7], [186, 105, 211], []⟩ ∧
    (after [.pDiv] (polys [0x12, 0x34, 0x56, 0, 0] [1, 3, 2])).poly.pr = [152, 232] := by decide +kernel

theorem test_pGen : (after [.pGen 7] fresh).poly.pr = [1, 127, 122, 154, 164, 11, 68, 117] := by decide +kernel

theorem test_pSyn : (after [.pSyn 3] (polys [1, 0] [])).poly.pr = [1, 2, 4] ∧ answer (.pSyn 3) (polys [1, 0] []) = ok 0 ∧
    answer (.pSyn 2) (polys [0x12, 0x34, 0x56, 152, 232] []) = ok 1 := by decide +kernel

/-! ### Reed-Solomon unit -/

theorem test_rsSplit_tier5 : (blockOffset (Rom.standard.row 5) 1, blockOffset (Rom.standard.row 5) 2,
    blockOffset (Rom.standard.row 5) 3, blockLen (Rom.standard.row 5) 1, blockLen (Rom.standard.row 5) 2) =
    (15, 30, 46, 15, 16) := by decide

theorem test_rsEcc_hello : helloEcc.redundancy 0 =
    some [0x53, 0xA2, 0xB2, 0x2E, 0xC8, 0x23, 0x47, 0xC7, 0x98, 0xB2, 0x1B, 0x70, 0x8E] ∧ helloEcc.ds = .eccDone := by
  decide +kernel

theorem test_rsSyn_hello : answer (.rsSyn 0) helloEcc = ok 1 := by decide +kernel

theorem test_rsReads_hello : answer (.rsRdd 0 1) helloEcc = ok 0x54 ∧ answer (.rsRde 0 0) helloEcc = ok 0x53 ∧
    answer (.rsRde 0 13) helloEcc = failed .rangeError := by decide +kernel

theorem test_rsIlv_hello : (helloFinal.flen, answer (.bitsRdb 1 13) helloFinal, answer (.bitsRdb 1 25) helloFinal) =
    (208, ok 0x53, ok 0x8E) := by decide +kernel

/-! ### Matrix builder -/

theorem test_mxFind : (let s := after [.mxAlloc, .mxFind] (tier 1)
    (s.size, [s.g.get 0 0, s.g.get 1 1, s.g.get 3 3, s.g.get 20 0, s.g.get 15 1, s.g.get 0 20, s.r.get 7 0])) =
    (21, [true, false, true, true, false, true, false]) := by decide +kernel

theorem test_mxAlign_tier2 : (let s := after [.mxAlloc, .mxFind, .mxSep, .mxAlign] (tier 2)
    (s.nstamp, s.g.get 18 18, s.g.get 17 18, s.g.get 16 16, s.r.get 7 7)) = (1, true, false, true, true) := by decide +kernel

theorem test_mxFixed_tier1 : (let s := after [.mxFixed] (tier 1)
    ((cellsBelow 21 21).countP fun c => s.r.get c.1 c.2, (cellsBelow 21 21).countP fun c => s.g.get c.1 c.2,
      (zigzag 21 s.r).length, (zigzag 21 s.r)[184]?)) = (233, 106, 208, some (5, 9)) := by decide +kernel

theorem test_mxPlace_hello : (helloBuilt.g.get 19 20, helloBuilt.g.get 20 20, helloBuilt.g.get 8 13, helloBuilt.ms,
    answer (.gridRd 0 19 20) helloBuilt, answer (.gridRd 0 21 0) helloBuilt) =
    (true, false, true, .placed, ok 1, failed .rangeError) := by decide +kernel

/-! ### Mask evaluator -/

theorem test_mkBit : ((List.range 8).map fun k => answer (.mkBit (BitVec.ofNat 8 k) 2 1) fresh) =
    [ok 0, ok 0, ok 0, ok 1, ok 1, ok 0, ok 1, ok 0] := by decide

theorem test_mask5_hello : (let s := after [.mkApply 5, .mkScore] helloBuilt
    (answer .mkP1 s, answer .mkP2 s, answer .mkP3 s, answer .mkP4 s, answer (.mkRds 5) s)) =
    (ok 206, ok 222, ok 40, ok 0, ok 468) := by decide +kernel

theorem test_penalty_lines :
    linePen [true, true, true, true, true, false, false, false, false, false, false] = 7 ∧
    matchCount Rom.standard [false, false, false, false, true, false, true, true, true, false, true, false, false, false, false] = 2 ∧
    balancePen 198 441 = 10 ∧ balancePen 200 441 = 0 := by decide

/-! ### Witnesses: states and operands that meet the hypotheses of the statements in Certificates/Slice0/Obligations.lean,
clause by clause, at the ends of the ranges -/

/-- A fresh job with a word presented. -/
def presented (w : Word) : State := { fresh with input := [.command w] }

/-- A dead job with a word presented. -/
def presentedDead (w : Word) : State := { dead with input := [.command w] }

/-- A job whose TEXT has `n` bytes. -/
def textOf (n : Nat) : State := { fresh with text := List.replicate n 0x41 }

/-- A job at given stages, with no data: enough for clauses that look at the stage alone. -/
def stages (d : DataStage) (m : MatrixStage) : State := { fresh with ds := d, ms := m }

/-- Tier 1 with FINAL the right number of zero bits: where MX.BUILD and MX.PLACE start. -/
def finalZero : State := { tier 1 with ds := .final, final := List.replicate 208 false }

theorem witness_EncodeOfDecode : decode 0x13070000 = .ok (.vset 7) := rfl

theorem witness_StepRunsDecodedCommand :
    (presented 0x13070000).input = .command 0x13070000 :: [] ∧ decode 0x13070000 = .ok (.vset 7) := ⟨rfl, rfl⟩

theorem witness_IllegalWordFaults :
    live (presented 0x05000000) ∧ decode 0x05000000 = .error .unlistedOpcode ∧
    live (presented 0x00000001) ∧ decode 0x00000001 = .error .mustBeZeroBit ∧
    (presentedDead 0x03000001).flt = true ∧ decode 0x03000001 = .error .mustBeZeroBit ∧ 3 ≤ (fieldOp 0x03000001).toNat ∧
    (presentedDead 0x02000001).flt = true ∧ decode 0x02000001 = .error .mustBeZeroBit ∧ (fieldOp 0x02000001).toNat ≤ 2 :=
  ⟨rfl, rfl, rfl, rfl, rfl, rfl, by decide, rfl, rfl, by decide⟩

theorem witness_StepWithoutCommand :
    fresh.input = [] ∧ { fresh with input := [.reset] }.input = .reset :: [] ∧
    { fresh with input := [.resetDuring 3] }.input = .resetDuring 3 :: [] := by decide

theorem witness_ResetValues : dead.rom = Rom.standard := rfl

theorem witness_EveryWordIsAnswered : (presented 0x05000000).input = .command 0x05000000 :: [] := rfl

theorem witness_CommandCounter : (∃ t, step (presented 0x00000000) = .next t) ∧
    (∃ t, step { fresh with input := [.reset] } = .next t) := ⟨⟨_, rfl⟩, ⟨_, rfl⟩⟩

theorem witness_DeadJobRefuses : dead.flt = true ∧ isExempt .encodeJob = false ∧ isExempt (.gridRd 0 0 0) = false := by decide

theorem witness_DeadJobExemptCommands : dead.flt = true ∧ (15 : Byte).toNat ≤ 15 ∧ 15 < (16 : Byte).toNat := by decide

theorem witness_FaultEntryFrame :
    live fresh ∧ (∃ t, exec (.vset 41) fresh = .next t ∧ t.resp = some ⟨false, 6⟩) ∧ isMacro (.vset 41) = false ∧
    (∃ t, exec .mxBuild fresh = .next t ∧ t.resp = some ⟨false, 5⟩) := ⟨rfl, ⟨_, rfl, rfl⟩, rfl, ⟨_, rfl, rfl⟩⟩

theorem witness_RaisesOnlyListedFaults : live fresh ∧ ∃ t, exec (.gfLog 0) fresh = .next t ∧ t.resp = failed .fieldLookupFailure :=
  ⟨rfl, _, rfl, rfl⟩

theorem witness_WrongStageFaults :
    (live fresh ∧ Instr.wellFormed .bsb = true ∧ blockOk fresh .bsb = true ∧ stageOk fresh .bsb = false) ∧
    (live fresh ∧ Instr.wellFormed (.vset 1) = true ∧ blockOk fresh (.vset 1) = true ∧ stageOk fresh (.vset 1) = true ∧
      isMacro (.vset 1) = false) := by decide

theorem witness_WrongStageFaults_block :
    let s := { stages .split .none with nblk := 1, e := [none] }
    live s ∧ Instr.wellFormed (.rsSyn 0) = true ∧ blockOk s (.rsSyn 0) = true ∧ stageOk s (.rsSyn 0) = false := by decide

theorem witness_OutOfRangeOperandFaults :
    live fresh ∧ stageOk fresh (.vset 0) = true ∧ offending (.vset 0) = some 0 ∧ offending (.vset 41) = some 41 ∧
    stageOk fresh (.pMov 0 4) = true ∧ offending (.pMov 0 4) = some 4 ∧
    stageOk (stages .final .placed) (.mkApply 8) = true ∧ offending (.mkApply 8) = some 8 := by decide

theorem witness_StagesNeverDecrease : Instr.vset 1 ≠ .jobNew ∧ ∃ t, exec (.vset 1) fresh = .next t := ⟨by decide, _, rfl⟩

theorem witness_ReadsHaveNoSideEffects :
    isRead (.pLen 0) = true ∧ ∃ t, exec (.pLen 0) fresh = .next t ∧ t.resp = some ⟨true, 0⟩ := ⟨rfl, _, rfl, rfl⟩

theorem witness_WritesOnlyItsSpaces : (∃ t, exec (.txtPush 1) fresh = .next t) ∧ mayWrite (.txtPush 1) .bits = false :=
  ⟨⟨_, rfl⟩, by decide⟩

theorem witness_StatusRegisters : live fresh ∧ dead.flt = true ∧ 15 < (16 : Byte).toNat := by decide

theorem witness_TableRead :
    live fresh ∧ 1 ≤ (1 : Byte).toNat ∧ (40 : Byte).toNat ≤ 40 ∧ ¬ (1 ≤ (0 : Byte).toNat ∧ (0 : Byte).toNat ≤ 40) ∧
    ¬ (1 ≤ (41 : Byte).toNat ∧ (41 : Byte).toNat ≤ 40) ∧ (Rom.standard.row 40).al[(6 : Byte).toNat]? = some 170 ∧
    (Rom.standard.row 1).al.length ≤ (0 : Byte).toNat ∧ (Rom.standard.row 40).al.length ≤ (7 : Byte).toNat ∧
    (8 : Byte).toNat ≤ 11 ∧ (8 : Byte) ≠ 9 ∧ 11 < (12 : Byte).toNat := by decide

/-- The seven commands of ENCODE complete on the empty text, with mask 0 (R305's example). -/
theorem witness_EncodeIsItsSevenCommands :
    (execAll [.vsel, .bsb, .rsSplit, .rsEccAll, .rsIlv, .mxBuild, .mkTryall] fresh).map (fun t => (t.best, t.bestScore)) =
      some (0, 498) := by decide +kernel

theorem witness_EncodeIsItsSevenCommands_fault :
    live (textOf 1664) ∧ (textOf 1664).ds = .text ∧ (textOf 1664).ms = .none ∧
    execAll [] (textOf 1664) = some (textOf 1664) ∧ answer .vsel (textOf 1664) = failed .capacityExceeded ∧
    ¬ ((stages .tiered .none).ds = .text ∧ (stages .tiered .none).ms = .none) := by decide +kernel

theorem witness_EncodeSucceeds :
    (live (textOf 1663) ∧ (textOf 1663).rom = Rom.standard ∧ (textOf 1663).ds = .text ∧ (textOf 1663).ms = .none ∧
      (textOf 1663).bits = [] ∧ (textOf 1663).text.length ≤ 1663) ∧
    (live fresh ∧ fresh.text.length ≤ 1663) ∧ (live (textOf 1664) ∧ 1663 < (textOf 1664).text.length) := by decide +kernel

theorem witness_TextCommands :
    (live (textOf 2047) ∧ (textOf 2047).ds = .text ∧ (textOf 2047).text.length < 2048) ∧
    (stages .tiered .none).ds ≠ .text ∧ ((textOf 2048).ds = .text ∧ 2048 ≤ (textOf 2048).text.length) ∧
    helloText.text[(4 : Half).toNat]? = some 0x4F ∧ helloText.text[(5 : Half).toNat]? = none := by decide +kernel

theorem witness_VselPicksSmallestTier :
    (live (textOf 1663) ∧ (textOf 1663).rom = Rom.standard ∧ (textOf 1663).ds = .text ∧ (textOf 1663).text.length ≤ 1663) ∧
    (live (textOf 1664) ∧ 1663 < (textOf 1664).text.length) ∧ (live (stages .tiered .none) ∧ (stages .tiered .none).ds ≠ .text) ∧
    (11 < 12 ∧ 12 ≤ 1663) := by decide +kernel

theorem witness_DirectEntryCommands :
    (live fresh ∧ fresh.ds = .text ∧ 1 ≤ (1 : Byte).toNat ∧ (40 : Byte).toNat ≤ 40) ∧
    ¬ (1 ≤ (41 : Byte).toNat ∧ (41 : Byte).toNat ≤ 40) ∧
    (live (tier 1) ∧ (tier 1).ds = .tiered ∧ (tier 1).bits.length + 8 ≤ 8 * ((tier 1).rom.row (tier 1).tier).td) ∧
    (let s := { tier 1 with bits := List.replicate 104 false }
     8 * (s.rom.row s.tier).td < s.bits.length + 8 ∧ s.bits.length = 8 * (s.rom.row s.tier).td) ∧
    (tier 1).bits.length ≠ 8 * ((tier 1).rom.row (tier 1).tier).td ∧ fresh.ds ≠ .tiered := by decide +kernel

theorem witness_BsbBuildsPaddedStream :
    (let s := { tier 1 with text := List.replicate 11 0x41 }
     live s ∧ s.rom = Rom.standard ∧ 1 ≤ s.tier ∧ s.tier ≤ 40 ∧ s.ds = .tiered ∧ s.bits = [] ∧
       s.text.length ≤ (Rom.standard.row s.tier).cap) ∧
    (let s := { tier 1 with text := List.replicate 12 0x41 }
     s.ds = .tiered ∧ s.bits = [] ∧ (Rom.standard.row s.tier).cap < s.text.length) ∧
    (live fresh ∧ ¬ (fresh.ds = .tiered ∧ fresh.bits = [])) ∧
    ¬ ({ tier 1 with bits := [true] }.ds = .tiered ∧ { tier 1 with bits := [true] }.bits = []) := by decide +kernel

theorem witness_BitBufferReads :
    (live helloPadded ∧ helloPadded.bits[(103 : Half).toNat]? = some true ∧ helloPadded.bits.length ≤ (104 : Half).toNat) ∧
    8 * (12 : Half).toNat + 8 ≤ helloPadded.bits.length ∧ helloPadded.bits.length < 8 * (13 : Half).toNat + 8 ∧
    1 < (2 : Byte).toNat := by
  decide +kernel

theorem witness_FieldCommands : live fresh ∧ fresh.rom = Rom.standard ∧ (255 : Byte) ≠ 0 := ⟨rfl, rfl, by decide⟩

theorem witness_PolyRegisterCommands :
    (polyRegs (polys [7] [1]))[(3 : Byte).toNat]? = some [] ∧ (polyRegs (polys [7] [1]))[(0 : Byte).toNat]? = some [7] ∧
    ([] : Poly).length < 256 ∧ 256 ≤ (List.replicate 256 (1 : Byte)).length ∧ [(7 : Byte)][(0 : Byte).toNat]? = some 7 ∧
    [(7 : Byte)].length ≤ (1 : Byte).toNat ∧ 4 ≤ (4 : Byte).toNat ∧ live (polys [7] [1]) := by decide +kernel

theorem witness_PMulIsTheProduct :
    (let s := polys (List.replicate 200 1) (List.replicate 57 1)
     live s ∧ s.rom = Rom.standard ∧ s.poly.pa ≠ [] ∧ s.poly.pb ≠ [] ∧ s.poly.pa.length + s.poly.pb.length - 1 ≤ 256) ∧
    (polys [] [1]).poly.pa = [] ∧
    (let s := polys (List.replicate 200 1) (List.replicate 58 1)
     s.poly.pa ≠ [] ∧ s.poly.pb ≠ [] ∧ 256 < s.poly.pa.length + s.poly.pb.length - 1) := by decide +kernel

theorem witness_PDivIsLongDivision :
    (let s := polys [0, 0, 5, 0] [2, 1]
     live s ∧ s.rom = Rom.standard ∧ s.poly.pb ≠ [] ∧ s.poly.pb.headD 0 ≠ 0 ∧ s.poly.pb.length ≤ s.poly.pa.length) ∧
    (let s := polys [5] [1, 2]
     s.poly.pb ≠ [] ∧ s.poly.pb.headD 0 ≠ 0 ∧ s.poly.pa.length < s.poly.pb.length) ∧
    (polys [5] []).poly.pb = [] ∧ ((polys [5] [0, 1]).poly.pb ≠ [] ∧ (polys [5] [0, 1]).poly.pb.headD 0 = 0) := by
  decide +kernel

theorem witness_PGenBuildsGenerator : live fresh ∧ fresh.rom = Rom.standard := ⟨rfl, rfl⟩

theorem witness_PSynEvaluates :
    let s := polys [0x12, 0x34, 0x56, 152, 232] []
    live s ∧ s.rom = Rom.standard := ⟨rfl, rfl⟩

theorem witness_RsSplitSlicesTheStream :
    (live helloPadded ∧ helloPadded.ds = .padded ∧
      helloPadded.row.g1b * helloPadded.row.g1w + helloPadded.row.g2b * helloPadded.row.g2w = helloPadded.row.td) ∧
    (let s := { stages .padded .none with tier := 1, rom := { Rom.standard with tiers := [⟨21, 11, 13, 13, 1, 12, 0, 0, 0, 8, []⟩] } }
     s.ds = .padded ∧ s.row.g1b * s.row.g1w + s.row.g2b * s.row.g2w ≠ s.row.td) ∧ fresh.ds ≠ .padded := by decide +kernel

/-- The data path invariant in the middle of the pipeline: "HELLO" split, its block not done. -/
theorem dataInv_helloSplit : DataInv helloSplit := by
  constructor <;> decide +kernel

/-- The data path invariant with the block done. -/
theorem dataInv_helloEcc : DataInv helloEcc := by
  constructor <;> decide +kernel

theorem witness_RsEccComputesRedundancy :
    live helloSplit ∧ DataInv helloSplit ∧ helloSplit.ds = .split ∧ (0 : Byte).toNat < helloSplit.nblk ∧
    helloSplit.nblk ≤ (1 : Byte).toNat ∧ fresh.ds ≠ .split ∧ fresh.ds ≠ .eccDone :=
  ⟨by decide +kernel, dataInv_helloSplit, by decide +kernel⟩

theorem rsEcc_next (s : State) : ∃ t, exec (.rsEcc 0) s = .next t := by
  change ∃ t, execRsEcc 0 s = .next t
  unfold execRsEcc runLive
  split <;> exact ⟨_, rfl⟩

theorem witness_RsSynAfterEccIsZero : DataInv helloSplit ∧ ∃ t, exec (.rsEcc 0) helloSplit = .next t :=
  ⟨dataInv_helloSplit, rsEcc_next _⟩

theorem witness_RsBlockReads :
    (live helloEcc ∧ helloEcc.rom = Rom.standard ∧ 3 ≤ helloEcc.ds.code ∧ (0 : Byte).toNat < helloEcc.nblk ∧
      (helloEcc.d.getD 0 [])[(12 : Byte).toNat]? = some 0x11 ∧ (helloEcc.d.getD 0 []).length ≤ (13 : Byte).toNat ∧
      (helloEcc.e[0]?.map fun o => o.map fun ecc => ecc[(12 : Byte).toNat]?) = some (some (some 0x8E)) ∧
      (12 : Byte).toNat < helloEcc.row.ec ∧ helloEcc.row.ec ≤ (13 : Byte).toNat) ∧
    helloSplit.ev 0 = false ∧ helloEcc.nblk ≤ (1 : Byte).toNat ∧ fresh.ds.code < 3 := by decide +kernel

theorem witness_RsEccAllDoesEveryBlock : live helloSplit ∧ DataInv helloSplit ∧ helloSplit.ds = .split ∧ fresh.ds ≠ .split :=
  ⟨by decide +kernel, dataInv_helloSplit, by decide +kernel⟩

theorem witness_RsIlvInterleaves :
    live helloEcc ∧ DataInv helloEcc ∧ helloEcc.ds = .eccDone ∧ fresh.ds ≠ .eccDone ∧
    (helloEcc.d.getD 0 [])[12]? = some 0x11 :=
  ⟨by decide +kernel, dataInv_helloEcc, by decide +kernel⟩

/-- Step 1 done at tier 1. -/
def found : State := after [.mxAlloc, .mxFind] (tier 1)

theorem gridReady_found : GridReady found := by constructor <;> decide +kernel

theorem witness_MxAllocFindSep :
    (live fresh ∧ ¬ (1 ≤ fresh.ds.code ∧ fresh.ms = .none) ∧ fresh.ms ≠ .alloc ∧ fresh.ms ≠ .find) ∧
    (live (tier 1) ∧ 1 ≤ (tier 1).ds.code ∧ (tier 1).ms = .none) ∧
    (live (after [.mxAlloc] (tier 1)) ∧ (after [.mxAlloc] (tier 1)).ms = .alloc) ∧ (live found ∧ found.ms = .find) ∧
    GridReady found := ⟨by decide, by decide +kernel, by decide +kernel, by decide +kernel, gridReady_found⟩

/-- A ready grid at any stage of the steps. -/
def foundAt (m : MatrixStage) : State := { found with ms := m }

theorem gridReady_foundAt (m : MatrixStage) : GridReady (foundAt m) :=
  ⟨gridReady_found.rom, gridReady_found.tier, gridReady_found.side, gridReady_found.gridG, gridReady_found.gridR⟩

theorem witness_MxTimingDarkFmt :
    live (foundAt .align) ∧ (foundAt .align).ms = .align ∧ (foundAt .timing).ms = .timing ∧ (foundAt .dark).ms = .dark ∧
    GridReady (foundAt .align) ∧ GridReady (foundAt .timing) ∧ GridReady (foundAt .dark) ∧
    (fresh.ms ≠ .align ∧ fresh.ms ≠ .timing ∧ fresh.ms ≠ .dark) :=
  ⟨by decide +kernel, rfl, rfl, rfl, gridReady_foundAt _, gridReady_foundAt _, gridReady_foundAt _, by decide⟩

/-- Steps 1 and 2 done at tier 2, which has an alignment pattern. -/
def separated : State := after [.mxAlloc, .mxFind, .mxSep] (tier 2)

theorem witness_MxAlignStampsPatterns :
    fresh.ms ≠ .sep ∧ live separated ∧ separated.ms = .sep ∧ GridReady separated ∧
    (∀ x, x < 25 → ∀ y, y < 25 → separated.r.get x y = ((locatorAt 25 x y).isSome || isSeparator 25 x y)) :=
  ⟨by decide, by decide +kernel, by decide +kernel, by constructor <;> decide +kernel, by decide +kernel⟩

theorem witness_ZigzagOrder : (1 ≤ 1 ∧ 1 ≤ 40) ∧ (1 ≤ 40 ∧ 40 ≤ 40) := by decide

theorem witness_MxPlaceFillsFreeCells :
    (let s := after [.mxFixed] finalZero
     live s ∧ s.ms = .fixed ∧ s.ds = .final ∧ (zigzag s.size s.r).length = s.final.length) ∧
    (let s := after [.mxFixed] { finalZero with final := [] }
     s.ms = .fixed ∧ s.ds = .final ∧ (zigzag s.size s.r).length ≠ s.final.length) ∧
    ¬ (fresh.ms = .fixed ∧ fresh.ds = .final) := by decide +kernel

theorem gridReady_fixed : GridReady (after [.mxFixed] finalZero) := by constructor <;> decide +kernel

theorem witness_MxPlaceFillsFreeCells_column6 :
    let s := after [.mxFixed] finalZero
    (∀ y, y < s.size → s.r.get 6 y = true) ∧ 20 < s.size ∧ s.r.get 20 20 = false := by decide +kernel

theorem witness_MxBuildCompletes :
    (¬ (1 ≤ fresh.ds.code ∧ fresh.ms = .none) ∧ ¬ (fresh.ds = .final ∧ fresh.ms = .none)) ∧
    (live (tier 1) ∧ 1 ≤ (tier 1).ds.code ∧ (tier 1).ms = .none) ∧
    (finalZero.ds = .final ∧ finalZero.ms = .none ∧ finalZero.rom = Rom.standard ∧ 1 ≤ finalZero.tier ∧ finalZero.tier ≤ 40 ∧
      finalZero.final.length = 8 * finalZero.row.tc + finalZero.row.rem) ∧
    (execAll [.mxFixed, .mxPlace] finalZero).isSome = true ∧
    (execAll [.mxFixed] { finalZero with final := [] }).map (answer .mxPlace) = some (failed .lengthError) := by decide +kernel

/-- A macro command that faults in its last constituent: MX.BUILD with an empty FINAL stops in MX.PLACE (R263, R361). -/
theorem witness_FaultEntryFrame_macro :
    let s := { finalZero with final := [] }
    live s ∧ answer .mxBuild s = failed .lengthError ∧ constituents s .mxBuild = fixedSteps ++ .mxPlace :: [] ∧
    (execAll fixedSteps s).map (fun u => (u.ms, answer .mxPlace u)) = some (.fixed, failed .lengthError) := by
  decide +kernel

theorem witness_GridAndScoreReads :
    (live found ∧ found.ms ≠ .none ∧ (20 : Byte).toNat < found.size ∧ found.size ≤ (21 : Byte).toNat ∧ found.tv = false) ∧
    4 ≤ (4 : Byte).toNat ∧ (7 : Byte).toNat = (7 : MaskIdx).val ∧ fresh.score[(7 : MaskIdx)] = none ∧
    (fresh.setScore 7 468).score[(7 : MaskIdx)] = some 468 ∧ 8 ≤ (8 : Byte).toNat := by decide +kernel

theorem witness_MaskBitAndApply :
    live (foundAt .placed) ∧ 8 ≤ (foundAt .placed).ms.code ∧ 8 ≤ (foundAt .masked).ms.code ∧
    (7 : Byte).toNat = (7 : MaskIdx).val ∧ 8 ≤ (8 : Byte).toNat ∧ (foundAt .fixed).ms.code < 8 := by decide +kernel

theorem witness_PenaltyCommands :
    (let s := (foundAt .placed).applyMask 0
     live s ∧ s.rom = Rom.standard ∧ s.tv = true) ∧ live found ∧ found.tv = false := by decide +kernel

theorem witness_ScoreBounds : 21 ≤ 177 ∧ 177 ≤ 177 := by decide

theorem witness_MkTryallKeepsTheBest :
    live (foundAt .placed) ∧ 8 ≤ (foundAt .placed).ms.code ∧ 8 ≤ (foundAt .masked).ms.code ∧ (foundAt .fixed).ms.code < 8 := by
  decide +kernel

/-! The invariants hold in the middle of a job too: after step 1 at tier 1, with a command presented. -/

/-- Step 1 done, MX.SEP presented. -/
def foundPresented : State := { found with input := [.command 0x52000000] }

theorem dataInv_found : DataInv foundPresented := by constructor <;> decide +kernel

theorem matrixInv_found : MatrixInv foundPresented := by constructor <;> decide +kernel

theorem locatorAt_bound {n x y : Nat} {b : Bool} (hn : 7 ≤ n) (h : locatorAt n x y = some b) : x < n ∧ y < n := by
  unfold locatorAt at h
  split at h
  · omega
  split at h
  · omega
  split at h
  · omega
  · cases h

theorem isBlank_bound {v n x y : Nat} (hn : 21 ≤ n) (h : isBlank v n x y = true) : x < n ∧ y < n := by
  simp [isBlank, isSeparator, isFormat, isVersion] at h
  omega

theorem locatorInv_found : LocatorInv foundPresented where
  matrix := matrixInv_found
  reserved := fun _ x y b h => by
    have key : ∀ x, x < 21 → ∀ y, y < 21 → (locatorAt 21 x y).isSome = true → foundPresented.r.get x y = true := by
      decide +kernel
    have hs : foundPresented.size = 21 := by decide +kernel
    rw [hs] at h
    obtain ⟨hx, hy⟩ := locatorAt_bound (by omega) h
    exact key x hx y hy (by rw [h]; rfl)
  inG := fun _ x y b h => by
    have key : ∀ x, x < 21 → ∀ y, y < 21 → (locatorAt 21 x y).getD (foundPresented.g.get x y) = foundPresented.g.get x y := by
      decide +kernel
    have hs : foundPresented.size = 21 := by decide +kernel
    rw [hs] at h
    obtain ⟨hx, hy⟩ := locatorAt_bound (by omega) h
    have := key x hx y hy
    rw [h] at this
    exact this.symm
  inT := fun h => absurd h (by decide +kernel)
  inO := fun h => absurd h (by decide +kernel)

theorem blankInv_found : BlankInv foundPresented where
  matrix := matrixInv_found
  separators := fun h => absurd h (by decide +kernel)
  reserved := fun h => absurd h (by decide +kernel)
  inG := fun _ x y h => by
    have key : ∀ x, x < 21 → ∀ y, y < 21 → isBlank 1 21 x y = true → foundPresented.g.get x y = false := by decide +kernel
    have hs : foundPresented.size = 21 ∧ foundPresented.tier = 1 := by decide +kernel
    rw [hs.1, hs.2] at h
    obtain ⟨hx, hy⟩ := isBlank_bound (by omega) h
    exact key x hx y hy h
  inT := fun h => absurd h (by decide +kernel)
  inO := fun h => absurd h (by decide +kernel)

theorem witness_Invariants :
    DataInv foundPresented ∧ MatrixInv foundPresented ∧ LocatorInv foundPresented ∧ BlankInv foundPresented ∧
    PolyInv foundPresented ∧ FaultInv foundPresented ∧ memoryWf foundPresented = true ∧
    (match step foundPresented with | .next t => t.ms | _ => .none) = .sep :=
  ⟨dataInv_found, matrixInv_found, locatorInv_found, blankInv_found, by constructor <;> decide +kernel,
    by constructor <;> decide +kernel, by decide +kernel, by decide +kernel⟩

end Sys2Proof.Tests
end

/-! ## What a step can do -/

namespace Sys2Proof.Machine

open Sys2Proof.Safety

/-! ### The branches of a step (R19, R25, R390, R392) -/

theorem step_idle {s : State} (h : s.input = []) : step s = .next s := by
  unfold step; rw [h]

theorem step_reset {s : State} {rest : List Input} (h : s.input = .reset :: rest) :
    step s = .next (s.resetInput rest) := by
  unfold step; rw [h]

theorem step_resetDuring {s : State} {w : Word} {rest : List Input} (h : s.input = .resetDuring w :: rest) :
    step s = .next (s.resetInput rest) := by
  unfold step; rw [h]

theorem step_command {s : State} {w : Word} {rest : List Input} {i : Instr} (h : s.input = .command w :: rest)
    (hw : decode w = .ok i) : step s = exec i (s.accept w rest) := by
  unfold step; rw [h]; simp only [hw]

theorem step_illegal {s : State} {w : Word} {rest : List Input} {e : DecodeError} (h : s.input = .command w :: rest)
    (hw : decode w = .error e) : step s = .next ((s.accept w rest).illegalWord w e) := by
  unfold step; rw [h]; simp only [hw]

/-- Settles O4: the state in which the word is accepted is `State.accept`, written out. -/
theorem stepRunsDecodedCommand : Obligations.StepRunsDecodedCommand :=
  fun _ _ _ _ hinput hdecode => step_command hinput hdecode

/-- Settles O6, one conjunct for each branch of the step that executes no command. -/
theorem stepWithoutCommand : Obligations.StepWithoutCommand :=
  fun _ _ _ => ⟨step_idle, step_reset, step_resetDuring⟩

/-- The operation of each command, without the check for a dead job. -/
def opOf : Instr → State → Result
  | .nop => opNop
  | .jobNew => opJobNew
  | .srRd a => opSrRd a
  | .encodeJob => opEncodeJob
  | .tblRd a b c => opTblRd a b c
  | .txtPush a => opTxtPush a
  | .txtRd imm16 => opTxtRd imm16
  | .vsel => opVsel
  | .vset a => opVset a
  | .bsb => opBsb
  | .dcwPush a => opDcwPush a
  | .dcwSeal => opDcwSeal
  | .bitsRd a imm16 => opBitsRd a imm16
  | .bitsRdb a imm16 => opBitsRdb a imm16
  | .gfExp a => opGfExp a
  | .gfLog a => opGfLog a
  | .gfMul a b => opGfMul a b
  | .gfAdd a b => opGfAdd a b
  | .pClr a => opPClr a
  | .pPush a b => opPPush a b
  | .pRd a b => opPRd a b
  | .pLen a => opPLen a
  | .pMul => opPMul
  | .pDiv => opPDiv
  | .pGen a => opPGen a
  | .pSyn a => opPSyn a
  | .pMov a b => opPMov a b
  | .rsSplit => opRsSplit
  | .rsEcc a => opRsEcc a
  | .rsEccAll => opRsEccAll
  | .rsSyn a => opRsSyn a
  | .rsIlv => opRsIlv
  | .rsRdd a b => opRsRdd a b
  | .rsRde a b => opRsRde a b
  | .mxAlloc => opMxAlloc
  | .mxFind => opMxFind
  | .mxSep => opMxSep
  | .mxAlign => opMxAlign
  | .mxTiming => opMxTiming
  | .mxDark => opMxDark
  | .mxFmt => opMxFmt
  | .mxPlace => opMxPlace
  | .mxFixed => opMxFixed
  | .mxBuild => opMxBuild
  | .gridRd a b c => opGridRd a b c
  | .mkBit a b c => opMkBit a b c
  | .mkApply a => opMkApply a
  | .mkP1 => penaltyOf pen1
  | .mkP2 => penaltyOf pen2
  | .mkP3 => fun s => penaltyOf (pen3 s.rom) s
  | .mkP4 => penaltyOf pen4
  | .mkScore => opMkScore
  | .mkTryall => opMkTryall
  | .mkRds a => opMkRds a

/-- Executing a command is running its operation; a dead job runs the exempt ones alone (R357). -/
theorem exec_eq_run (i : Instr) (s : State) :
    exec i s = if isExempt i then runAlways (opOf i) s else runLive (opOf i) s := by
  cases i <;> rfl

/-! ### The changes of the state -/

/-- The changes of the data path and the channels: what the step does around a command, and what a command of text, bits,
polynomials or blocks does where it completes, RS.ECCALL block by block (R225). -/
inductive DataChange : State → State → Prop
  | accept (s : State) (w : Word) (rest : List Input) : DataChange s (s.accept w rest)
  | respond (s : State) (a : Response) : DataChange s (s.respondWith a)
  | recordFault (s : State) (c : FaultCode) (n : Nat) (hlive : live s) : DataChange s (s.recordFault c n)
  | pushText (s : State) (a : Byte) (hds : s.ds = .text) (hlen : s.len < Config.textDepth) :
      DataChange s { s with text := s.text ++ [a] }
  | buildBits (s : State) (bits : List Bool) (hds : s.ds = .tiered) (hb : buildStream s.rom s.text s.row = some bits) :
      DataChange s { s with bits := bits, ds := .padded }
  | pushCodeword (s : State) (a : Byte) (hds : s.ds = .tiered) (hlen : s.blen + 8 ≤ s.bitCapacity) :
      DataChange s { s with bits := s.bits ++ bits8 a }
  | sealBits (s : State) (hds : s.ds = .tiered) (hlen : s.blen = s.bitCapacity) : DataChange s { s with ds := .padded }
  | writePoly (s : State) (p : PolyReg) (c : Poly) (hlen : s.rom = Rom.standard → PolyInv s → c.length ≤ 256) :
      DataChange s (s.writePoly p c)
  | splitBlocks (s : State) (hds : s.ds = .padded) (hrow : s.row.consistent = true) :
      DataChange s { s with
        nblk := s.row.blocks
        d := splitBlocks s.row (dataCodewords s.bits s.row.td)
        e := List.replicate s.row.blocks none
        evcnt := 0
        ds := .split }
  | eccBlock (s : State) (b : Nat) (hds : s.eccStage = true) (hb : b < s.nblk) : DataChange s (s.eccBlock b)
  | interleave (s : State) (hds : s.ds = .eccDone) : DataChange s { s with final := finalBits s, ds := .final }

/-- The state after the candidates of step 3 (R256). -/
def State.aligned (s : State) : State := (alignCandidates s.row.al).foldl State.alignOne { s with nstamp := 0 }

/-- The changes of the matrix path: steps 0 to 7 of the builder (R250), a trial grid (R294), its score (R304), and try-all
(R305).  The cells a step writes are a variable with an equation, so that a proof meets their list only where it counts. -/
inductive MatrixChange : State → State → Prop
  | alloc (s : State) (hds : 1 ≤ s.ds.code) (hms : s.ms = .none) :
      MatrixChange s { s with g := .blank s.row.side, r := .blank s.row.side, size := s.row.side, ms := .alloc }
  | find (s : State) (cells : List (Cell × Bool)) (hcells : cells = finderCells s.rom s.size) (hms : s.ms = .alloc) :
      MatrixChange s { s.stamp cells with ms := .find }
  | sep (s : State) (cells : List Cell) (hcells : cells = separatorCells s.size) (hms : s.ms = .find) :
      MatrixChange s { s.reserve cells with ms := .sep }
  | align (s u : State) (hu : u = s.aligned) (hms : s.ms = .sep) :
      MatrixChange s { s with g := u.g, r := u.r, nstamp := u.nstamp, ms := .align }
  | timing (s : State) (cells : List (Cell × Bool)) (hcells : cells = timingCells s.size) (hms : s.ms = .align) :
      MatrixChange s { s.stamp cells with ms := .timing }
  | dark (s : State) (cells : List (Cell × Bool)) (hcells : cells = [(darkModule s.tier, true)]) (hms : s.ms = .timing) :
      MatrixChange s { s.stamp cells with ms := .dark }
  | fmt (s : State) (cells : List Cell) (hcells : cells = formatCells s.size ++ versionCells s.tier s.size)
      (hms : s.ms = .dark) : MatrixChange s { s.reserve cells with ms := .fixed }
  | place (s : State) (cells : List Cell) (hcells : cells = zigzag s.size s.r) (hms : s.ms = .fixed) (hds : s.ds = .final)
      (hlen : cells.length = s.flen) :
      MatrixChange s { s with g := s.g.setAll (cells.zip s.final), ms := .placed }
  | applyMask (s : State) (k : MaskIdx) (hms : 8 ≤ s.ms.code) : MatrixChange s (s.applyMask k)
  | setScore (s : State) (htv : s.tv = true) : MatrixChange s (s.setScore s.tmask s.trialScore)
  | tryAll (s : State) (trial best : MaskIdx) (score : Vector (Option Word) 8) (bestScore : Word) (hms : 8 ≤ s.ms.code)
      (hscore : ∀ k : MaskIdx, score[k].isSome = true) :
      MatrixChange s { s with
        t := trialGrid trial s.size s.g s.r
        tmask := trial
        tv := true
        o := trialGrid best s.size s.g s.r
        score := score
        best := best
        bestScore := bestScore
        ms := .masked }

/-- One change of the state: a fresh state, the choice of the tier (R143, R144), a change of the data path or of the matrix
path. -/
inductive Change : State → State → Prop
  | reset (s : State) (rest : List Input) : Change s (s.resetInput rest)
  | newJob (s : State) : Change s s.newJob
  | chooseTier (s : State) (v : Nat) (hds : s.ds = .text) (hv : s.rom = Rom.standard → 1 ≤ v ∧ v ≤ 40) :
      Change s { s with tier := v, ds := .tiered }
  | data {s t : State} (h : DataChange s t) : Change s t
  | matrix {s t : State} (h : MatrixChange s t) : Change s t

/-- Changes one after another, or none. -/
inductive Changes : State → State → Prop
  | refl {s : State} : Changes s s
  | tail {s t u : State} (h : Changes s t) (hlast : Change t u) : Changes s u

theorem Changes.single {s t : State} (h : Change s t) : Changes s t := .tail .refl h

theorem Changes.data {s t : State} (h : DataChange s t) : Changes s t := .single (.data h)

theorem Changes.matrix {s t : State} (h : MatrixChange s t) : Changes s t := .single (.matrix h)

theorem Changes.trans {s t u : State} (h : Changes s t) (hnext : Changes t u) : Changes s u := by
  induction hnext with
  | refl => exact h
  | tail _ hlast ih => exact .tail ih hlast

/-- What every change keeps, changes one after another keep. -/
theorem Changes.keep {P : State → Prop} (hP : ∀ {s t}, Change s t → P s → P t) {s t : State} (h : Changes s t)
    (hs : P s) : P t := by
  induction h with
  | refl => exact hs
  | tail _ hlast ih => exact hP hlast ih

theorem Changes.andThen {s : State} {r : Result} {k : State → Result} (h : Changes s r.state)
    (hk : ∀ u, Changes u (k u).state) : Changes s (r.andThen k).state :=
  andThen_keeps h fun u hu => hu.trans (hk u)

theorem Changes.respond {s : State} {r : Result} {f : State → Nat} (h : Changes s r.state) :
    Changes s (r.respond f).state := by rwa [respond_state]

/-! ### The operations that change nothing (R88) -/

theorem penaltyOf_state (pen : Nat → Grid → Nat) (s : State) : (penaltyOf pen s).state = s := by
  unfold penaltyOf
  split <;> rfl

theorem opOf_state_of_isRead {i : Instr} (h : isRead i = true) (s : State) : (opOf i s).state = s := by
  cases i
  case mkP1 | mkP2 | mkP3 | mkP4 => exact penaltyOf_state ..
  case srRd | tblRd | txtRd | bitsRd | bitsRdb | gfExp | gfLog | gfMul | gfAdd | pRd | pLen | rsRdd | rsRde | gridRd |
      mkBit | mkRds =>
    simp only [opOf, opSrRd, opTblRd, opTxtRd, opBitsRd, opBitsRdb, opGfExp, opGfLog, opGfMul, opGfAdd, opPRd, opPLen,
      opRsRdd, opRsRde, opGridRd, opMkBit, opMkRds]
    repeat' split
    all_goals rfl
  all_goals cases h

end Sys2Proof.Machine

/-! ## The printed tier table, and lengths -/

namespace Sys2Proof.Machine

open Sys2Proof.Safety

/-! ### The tier table (R38, R39) -/

/-- A tier number inside or outside the table reads a printed row or the absent one. -/
theorem standard_row_mem (v : Nat) : Rom.standard.row v ∈ TierRow.absent :: Rom.standard.tiers := by
  cases v with
  | zero => exact List.mem_cons_self ..
  | succ k =>
    show Rom.standard.tiers.getD k .absent ∈ _
    rw [List.getD_eq_getElem?_getD]
    cases hk : Rom.standard.tiers[k]? with
    | none => exact List.mem_cons_self ..
    | some row => exact List.mem_cons_of_mem _ (List.mem_of_getElem? hk)

/-- What the depths of R11 rest on: no tier has more codewords or blocks, or longer blocks, than tier 40 and R38 allow. -/
structure TierRow.Fits (row : TierRow) : Prop where
  side : row.side ≤ 177
  td : row.td ≤ 1666
  ec : row.ec ≤ 30
  blocks : row.blocks ≤ 68
  g1w : row.g1w ≤ 25
  g2w : row.g2w ≤ 25
  final : 8 * row.tc + row.rem ≤ 29648
  consistent : row.g1b * row.g1w + row.g2b * row.g2w = row.td

theorem standard_row_fits (v : Nat) : (Rom.standard.row v).Fits := by
  have all : ∀ row ∈ TierRow.absent :: Rom.standard.tiers,
      row.side ≤ 177 ∧ row.td ≤ 1666 ∧ row.ec ≤ 30 ∧ row.blocks ≤ 68 ∧ row.g1w ≤ 25 ∧ row.g2w ≤ 25 ∧
      8 * row.tc + row.rem ≤ 29648 ∧ row.g1b * row.g1w + row.g2b * row.g2w = row.td := by decide
  obtain ⟨hside, htd, hec, hblocks, hg1w, hg2w, hfinal, hsum⟩ := all _ (standard_row_mem v)
  exact ⟨hside, htd, hec, hblocks, hg1w, hg2w, hfinal, hsum⟩

theorem row_fits {s : State} (hrom : s.rom = Rom.standard) : s.row.Fits := by
  unfold State.row; rw [hrom]; exact standard_row_fits _

/-- The side of a tier (R38), and where its alignment coordinates lie (R39): at the first and the last, or well between. -/
theorem standard_row_side {v : Nat} (h1 : 1 ≤ v) (h40 : v ≤ 40) :
    (Rom.standard.row v).side = 21 + 4 * (v - 1) ∧
    ∀ c ∈ (Rom.standard.row v).al, c = 6 ∨ c + 7 = (Rom.standard.row v).side ∨
      16 ≤ c ∧ c + 16 ≤ (Rom.standard.row v).side := by
  have all : ∀ v, v < 41 → 1 ≤ v → (Rom.standard.row v).side = 21 + 4 * (v - 1) ∧
      ∀ c ∈ (Rom.standard.row v).al, c = 6 ∨ c + 7 = (Rom.standard.row v).side ∨
        16 ≤ c ∧ c + 16 ≤ (Rom.standard.row v).side := by decide
  exact all v (by omega) h1

theorem firstTier_bounds (len : Nat) (rows : List TierRow) (v : Nat) (h1 : 1 ≤ v) (h40 : v + rows.length ≤ 41) :
    1 ≤ firstTier len rows v ∧ firstTier len rows v ≤ 40 := by
  induction rows generalizing v with
  | nil => exact ⟨show 1 ≤ 40 by decide, Nat.le_refl 40⟩
  | cons row rows ih =>
    rw [List.length_cons] at h40
    unfold firstTier
    split
    · omega
    · exact ih (v + 1) (by omega) (by omega)

/-- R142: the tier selected is one of the table. -/
theorem selectTier_bounds {rom : Rom} (hrom : rom = Rom.standard) (len : Nat) :
    1 ≤ selectTier rom len ∧ selectTier rom len ≤ 40 := by
  subst hrom
  exact firstTier_bounds len _ 1 (Nat.le_refl 1) (by decide)

/-! ### Sums -/

/-- The sum of `f 0`, ..., `f (n-1)`. -/
def sumBelow : Nat → (Nat → Nat) → Nat
  | 0, _ => 0
  | n + 1, f => sumBelow n f + f n

theorem sumBelow_add (n : Nat) (f g : Nat → Nat) : sumBelow n (fun b => f b + g b) = sumBelow n f + sumBelow n g := by
  induction n with
  | zero => rfl
  | succ n ih => simp only [sumBelow, ih]; omega

theorem sumBelow_le {n : Nat} {f g : Nat → Nat} (h : ∀ b, b < n → f b ≤ g b) : sumBelow n f ≤ sumBelow n g := by
  induction n with
  | zero => exact Nat.le_refl 0
  | succ n ih => exact Nat.add_le_add (ih fun b hb => h b (by omega)) (h n (by omega))

theorem sumBelow_const {n c : Nat} {f : Nat → Nat} (h : ∀ b, b < n → f b = c) : sumBelow n f = n * c := by
  induction n with
  | zero => rw [Nat.zero_mul]; rfl
  | succ n ih => rw [sumBelow, ih fun b hb => h b (by omega), h n (by omega), Nat.succ_mul]

theorem sumBelow_split (n m : Nat) (f : Nat → Nat) : sumBelow (n + m) f = sumBelow n f + sumBelow m (fun b => f (n + b)) := by
  induction m with
  | zero => rfl
  | succ m ih => rw [← Nat.add_assoc, sumBelow, ih, sumBelow, Nat.add_assoc]

theorem length_flatMap_range {α : Type} (n : Nat) (f : Nat → List α) :
    ((List.range n).flatMap f).length = sumBelow n fun i => (f i).length := by
  induction n with
  | zero => rfl
  | succ n ih =>
    rw [List.range_succ, List.flatMap_append, List.length_append, ih, List.flatMap_singleton]
    rfl

/-! ### The stream (R145) -/

theorem length_terminated_mod (head : List Bool) (cap : Nat) : (terminated head cap).length % 8 = 0 := by
  unfold terminated
  simp only [List.length_append, length_zeroBits]
  omega

theorem length_filler (rom : Rom) (n cap : Nat) : (filler rom n cap).length = 8 * ((cap - n + 7) / 8) := by
  unfold filler
  rw [length_flatMap_range, sumBelow_const fun k _ => length_bits8 _, Nat.mul_comm]

/-- The stream is as long as the tier's capacity. -/
theorem length_of_buildStream {rom : Rom} {text : List Byte} {row : TierRow} {bits : List Bool}
    (h : buildStream rom text row = some bits) : bits.length = 8 * row.td := by
  unfold buildStream at h
  simp only at h
  split at h
  · cases h
  split at h
  · cases h
  next hle =>
    have hmod := length_terminated_mod (streamHead rom text row) (8 * row.td)
    rw [← Option.some.inj h, List.length_append, length_filler]
    omega

/-! ### Polynomials (R192 to R196, R222) -/

theorem length_polyMul (rom : Rom) {p q : Poly} (hp : p.length ≠ 0) (hq : q.length ≠ 0) :
    (polyMul rom p q).length = p.length + q.length - 1 := by
  unfold polyMul
  rw [if_neg (by simp [hp, hq])]
  simp

theorem length_polyMul_le (rom : Rom) (p q : Poly) : (polyMul rom p q).length ≤ p.length + q.length - 1 := by
  unfold polyMul
  split <;> simp

theorem length_genPoly (rom : Rom) (n : Nat) : (genPoly rom n).length = n + 1 := by
  induction n with
  | zero => rfl
  | succ n ih =>
    have hstep : genPoly rom (n + 1) = polyMul rom (genPoly rom n) [1, gfPow rom n] := by
      simp [genPoly, List.range_succ]
    rw [hstep, length_polyMul rom (by omega) (by simp), ih]
    rfl

@[simp] theorem length_xorInto (w p : Poly) : (xorInto w p).length = w.length := by
  induction w generalizing p with
  | nil => cases p <;> rfl
  | cons a w ih => cases p with
    | nil => rfl
    | cons b p => simp [xorInto, ih]

theorem length_divSteps (rom : Rom) (tail : Poly) (inv : Byte) (k : Nat) (w : Poly) :
    (divSteps rom tail inv k w).1.length ≤ k ∧ (divSteps rom tail inv k w).2.length = w.length - k := by
  induction k generalizing w with
  | zero => exact ⟨Nat.le_refl 0, rfl⟩
  | succ k ih => cases w with
    | nil => simp [divSteps]
    | cons lead w =>
      have hlen : (if gfMul rom lead inv ≠ 0 then xorInto w (tail.map (gfMul rom (gfMul rom lead inv))) else w).length =
          w.length := by split <;> simp
      obtain ⟨hq, hr⟩ := ih (if gfMul rom lead inv ≠ 0 then xorInto w (tail.map (gfMul rom (gfMul rom lead inv))) else w)
      simp only [divSteps, List.length_cons]
      rw [hlen] at hr
      omega

/-- The quotient is no longer than the dividend, and the remainder is one shorter than the divisor (R193). -/
theorem length_polyDivmod (rom : Rom) {p d : Poly} (hd : 1 ≤ d.length) :
    (polyDivmod rom p d).1.length ≤ p.length ∧ (polyDivmod rom p d).2.length = d.length - 1 := by
  unfold polyDivmod
  split
  next hshort =>
    refine ⟨Nat.zero_le _, ?_⟩
    rw [List.length_append, zeroCoeffs, List.length_replicate]
    omega
  next hlong =>
    obtain ⟨hq, hr⟩ := length_divSteps rom d.tail (gfInv rom (d.headD 0)) (p.length - d.length + 1) p
    omega

theorem length_syndromes (rom : Rom) (p : Poly) (n : Nat) : (syndromes rom p n).length = n := by
  simp [syndromes]

theorem length_rsEcc (rom : Rom) (data : List Byte) (n : Nat) : (rsEcc rom data n).length = n := by
  have hgen := length_genPoly rom n
  unfold rsEcc
  rw [(length_polyDivmod rom (by omega)).2, hgen]
  rfl

/-! ### The final sequence (R227) -/

/-- What the blocks look like once they are there (R221, R223): as many as the tier has, each with its length. -/
def BlocksFit (s : State) : Prop :=
  3 ≤ s.ds.code → s.nblk = s.row.blocks ∧ s.d.map List.length = (List.range s.row.blocks).map (blockLen s.row)

theorem blocksFit_of_dataInv {s : State} (h : DataInv s) : BlocksFit s :=
  fun hds => ⟨(h.blockCount hds).1, h.blockLens hds⟩

/-- The lengths of the blocks sum to the data codewords of the two groups (R221). -/
theorem sum_blockLen (row : TierRow) : sumBelow row.blocks (blockLen row) = row.g1b * row.g1w + row.g2b * row.g2w := by
  have first : sumBelow row.g1b (blockLen row) = row.g1b * row.g1w := sumBelow_const fun b hb => if_pos hb
  have second : sumBelow row.g2b (fun b => blockLen row (row.g1b + b)) = row.g2b * row.g2w :=
    sumBelow_const fun b _ => if_neg (by omega)
  rw [TierRow.blocks, sumBelow_split, first, second]

theorem BlocksFit.dlen_eq {s : State} (h : BlocksFit s) (hds : 3 ≤ s.ds.code) {b : Nat} (hb : b < s.row.blocks) :
    s.dlen b = blockLen s.row b := by
  have hb' : (s.d.map List.length)[b]? = some (blockLen s.row b) := by
    rw [(h hds).2, List.getElem?_map, List.getElem?_range hb]; rfl
  unfold State.dlen State.block
  rw [List.getElem?_map] at hb'
  obtain ⟨block, hblock, hlen⟩ := Option.map_eq_some_iff.mp hb'
  rw [List.getD_eq_getElem?_getD, hblock]
  exact hlen

/-- Up to position `m`, a block gives as many data codewords as it has, or `m`. -/
theorem length_interleavedData (s : State) (m : Nat) :
    ((List.range m).flatMap fun i => (List.range s.nblk).flatMap fun b =>
      if i < s.dlen b then [s.readData b i] else []).length = sumBelow s.nblk fun b => min m (s.dlen b) := by
  induction m with
  | zero => exact (sumBelow_const fun b _ => Nat.zero_min _).symm
  | succ m ih =>
    have hcount (b : Nat) : min (m + 1) (s.dlen b) =
        min m (s.dlen b) + (if m < s.dlen b then [s.readData b m] else []).length := by
      split
      · rw [List.length_singleton]; omega
      · rw [List.length_nil]; omega
    rw [List.range_succ, List.flatMap_append, List.length_append, ih, List.flatMap_singleton, length_flatMap_range,
      ← sumBelow_add]
    exact congrArg (sumBelow s.nblk) (funext fun b => (hcount b).symm)

theorem length_interleaved_le (s : State) : (interleaved s).length ≤ sumBelow s.nblk s.dlen + s.row.ec * s.nblk := by
  have hecc : ((List.range s.row.ec).flatMap fun j => (List.range s.nblk).map fun b => s.readRedundancy b j).length =
      s.row.ec * s.nblk := by
    rw [length_flatMap_range]
    exact sumBelow_const fun j _ => by rw [List.length_map, List.length_range]
  unfold interleaved
  rw [List.length_append, length_interleavedData, hecc]
  exact Nat.add_le_add_right (sumBelow_le fun b _ => Nat.min_le_right _ _) _

/-- R227: FINAL is within its depth. -/
theorem length_finalBits_le {s : State} (hrom : s.rom = Rom.standard) (h : BlocksFit s) (hds : 3 ≤ s.ds.code) :
    (finalBits s).length ≤ 29648 := by
  have hrow := row_fits hrom
  have hblocks : sumBelow s.row.blocks s.dlen ≤ sumBelow s.row.blocks (blockLen s.row) :=
    sumBelow_le fun b hb => Nat.le_of_eq (h.dlen_eq hds hb)
  have hlen := length_interleaved_le s
  rw [sum_blockLen, hrow.consistent] at hblocks
  rw [(h hds).1] at hlen
  have hfinal := hrow.final
  unfold TierRow.tc at hfinal
  unfold finalBits
  rw [List.length_append, length_flatMap_bits8, length_zeroBits]
  omega

/-- R221: the blocks RS.SPLIT fills have the lengths of the tier. -/
theorem length_splitBlocks (row : TierRow) (cw : List Byte) :
    (splitBlocks row cw).map List.length = (List.range row.blocks).map (blockLen row) := by
  simp [splitBlocks, Function.comp_def]

end Sys2Proof.Machine

/-! ## The changes of each operation -/

namespace Sys2Proof.Machine

open Sys2Proof.Safety

/-! ### Text and bits (R140 to R148) -/

theorem changes_opTxtPush (a : Byte) (s : State) : Changes s (opTxtPush a s).state := by
  unfold opTxtPush
  split
  · exact .refl
  split
  · exact .refl
  next hds hlen => exact .data (.pushText s a (Classical.not_not.mp hds) (Classical.not_not.mp hlen))

theorem changes_opVsel (s : State) : Changes s (opVsel s).state := by
  unfold opVsel
  split
  · exact .refl
  split
  · exact .refl
  next hds _ => exact .single (.chooseTier s _ (Classical.not_not.mp hds) fun hrom => selectTier_bounds hrom _)

theorem changes_opVset (a : Byte) (s : State) : Changes s (opVset a s).state := by
  unfold opVset
  split
  · exact .refl
  split
  · exact .refl
  next hds htier =>
    refine .single (.chooseTier s _ (Classical.not_not.mp hds) fun _ => ?_)
    obtain ⟨h1, h40⟩ := Bool.and_eq_true_iff.mp (Classical.not_not.mp htier)
    exact ⟨of_decide_eq_true h1, of_decide_eq_true h40⟩

theorem changes_opBsb (s : State) : Changes s (opBsb s).state := by
  unfold opBsb
  split
  · exact .refl
  next hds =>
    split
    · exact .refl
    next bits hb => exact .data (.buildBits s bits (Classical.not_not.mp hds).1 hb)

theorem changes_opDcwPush (a : Byte) (s : State) : Changes s (opDcwPush a s).state := by
  unfold opDcwPush
  split
  · exact .refl
  split
  · exact .refl
  next hds hlen => exact .data (.pushCodeword s a (Classical.not_not.mp hds) (Classical.not_not.mp hlen))

theorem changes_opDcwSeal (s : State) : Changes s (opDcwSeal s).state := by
  unfold opDcwSeal
  split
  · exact .refl
  split
  · exact .refl
  next hds hlen => exact .data (.sealBits s (Classical.not_not.mp hds) (Classical.not_not.mp hlen))

/-! ### Polynomial registers (R197 to R205, R226) -/

theorem readPoly_le_of_polyInv {s : State} (h : PolyInv s) (p : PolyReg) : (s.readPoly p).length ≤ 256 := by
  cases p with
  | pa => exact h.pa
  | pb => exact h.pb
  | pq => exact h.pq
  | pr => exact h.pr

theorem changes_opPClr (a : Byte) (s : State) : Changes s (opPClr a s).state := by
  unfold opPClr
  split
  · exact .refl
  · exact .data (.writePoly s _ [] fun _ _ => Nat.zero_le _)

theorem changes_opPPush (a b : Byte) (s : State) : Changes s (opPPush a b s).state := by
  unfold opPPush
  split
  · exact .refl
  split
  · exact .refl
  next hlen =>
    refine .data (.writePoly s _ _ fun _ _ => ?_)
    rw [List.length_append]
    exact Classical.not_not.mp hlen

theorem changes_opPMov (a b : Byte) (s : State) : Changes s (opPMov a b s).state := by
  unfold opPMov
  split
  · exact .refl
  split
  · exact .refl
  · exact .data (.writePoly s _ _ fun _ hpoly => readPoly_le_of_polyInv hpoly _)

theorem changes_opPMul (s : State) : Changes s (opPMul s).state := by
  unfold opPMul
  simp only
  split
  · exact .refl
  next hlen =>
    refine .data (.writePoly s .pr _ fun _ hpoly => ?_)
    have hpa := readPoly_le_of_polyInv hpoly .pa
    have hpb := readPoly_le_of_polyInv hpoly .pb
    have hmul := length_polyMul_le s.rom (s.readPoly .pa) (s.readPoly .pb)
    simp only [Config.polyDepth] at hlen
    omega

theorem changes_opPDiv (s : State) : Changes s (opPDiv s).state := by
  unfold opPDiv
  split
  · exact .refl
  split
  · exact .refl
  next hpb _ =>
    obtain ⟨hq, hr⟩ := length_polyDivmod s.rom (p := s.readPoly .pa) (Classical.not_not.mp hpb)
    refine (Changes.data (.writePoly s .pq _ fun _ hpoly => ?_)).trans (Changes.data (.writePoly _ .pr _ fun _ hpoly => ?_))
    · exact Nat.le_trans hq (readPoly_le_of_polyInv hpoly .pa)
    · have hlen : (s.readPoly .pb).length ≤ 256 := hpoly.pb
      omega

theorem changes_opPGen (a : Byte) (s : State) : Changes s (opPGen a s).state := by
  refine .data (.writePoly s .pr _ fun _ _ => ?_)
  rw [length_genPoly]
  exact a.isLt

theorem changes_opPSyn (a : Byte) (s : State) : Changes s (opPSyn a s).state := by
  refine .data (.writePoly s .pr _ fun _ _ => ?_)
  rw [length_syndromes]
  exact Nat.le_of_lt a.isLt

theorem changes_opRsSyn (a : Byte) (s : State) : Changes s (opRsSyn a s).state := by
  unfold opRsSyn
  split
  · exact .refl
  split
  · exact .refl
  split
  · exact .refl
  · refine .data (.writePoly s .pr _ fun hrom _ => ?_)
    rw [length_syndromes]
    exact Nat.le_trans (row_fits hrom).ec (by decide)

/-! ### Blocks (R223 to R227) -/

theorem changes_opRsSplit (s : State) : Changes s (opRsSplit s).state := by
  unfold opRsSplit
  split
  · exact .refl
  split
  · exact .refl
  next hds hrow => exact .data (.splitBlocks s (Classical.not_not.mp hds) (Classical.not_not.mp hrow))

theorem eccStage_iff {s : State} : s.eccStage = true ↔ s.ds = .split ∨ s.ds = .eccDone := by
  simp [State.eccStage]

/-- Beside the redundancy of the block, R224 writes `EVCNT` and may close the stage. -/
theorem eccBlock_frame (s : State) (b : Nat) : ∃ n d,
    s.eccBlock b = { s.setRedundancy b (rsEcc s.rom (s.block b) s.row.ec) with evcnt := n, ds := d } ∧
      (d = s.ds ∨ d = .eccDone) := by
  unfold State.eccBlock
  simp only
  split <;> split
  · exact ⟨s.evcnt, .eccDone, rfl, .inr rfl⟩
  · exact ⟨s.evcnt, s.ds, rfl, .inl rfl⟩
  · exact ⟨s.evcnt + 1, .eccDone, rfl, .inr rfl⟩
  · exact ⟨s.evcnt + 1, s.ds, rfl, .inl rfl⟩

theorem changes_opRsEccBlock (b : Nat) (s : State) : Changes s (opRsEccBlock b s).state := by
  unfold opRsEccBlock
  split
  · exact .refl
  split
  · exact .refl
  next hds hb => exact .data (.eccBlock s b (Classical.not_not.mp hds) (Classical.not_not.mp hb))

theorem changes_opRsEccAll (s : State) : Changes s (opRsEccAll s).state := by
  have chain (blocks : List Nat) (r : Result) (hr : Changes s r.state) :
      Changes s (blocks.foldl (fun r b => r.andThen (opRsEccBlock b)) r).state := by
    induction blocks generalizing r with
    | nil => exact hr
    | cons b blocks ih => exact ih _ (hr.andThen (changes_opRsEccBlock b))
  unfold opRsEccAll
  split
  · exact .refl
  · exact (chain _ (.done s 0) .refl).respond

theorem changes_opRsIlv (s : State) : Changes s (opRsIlv s).state := by
  unfold opRsIlv
  split
  · exact .refl
  next hds => exact .data (.interleave s (Classical.not_not.mp hds))

/-! ### Matrix builder (R252 to R263) -/

theorem changes_opMxAlloc (s : State) : Changes s (opMxAlloc s).state := by
  unfold opMxAlloc
  split
  · exact .refl
  next h => exact .matrix (.alloc s (Classical.not_not.mp h).1 (Classical.not_not.mp h).2)

theorem changes_opMxFind (s : State) : Changes s (opMxFind s).state := by
  unfold opMxFind
  split
  · exact .refl
  next hms => exact .matrix (.find s _ rfl (Classical.not_not.mp hms))

theorem changes_opMxSep (s : State) : Changes s (opMxSep s).state := by
  unfold opMxSep
  split
  · exact .refl
  next hms => exact .matrix (.sep s _ rfl (Classical.not_not.mp hms))

/-- A candidate writes the two grids and counts, nothing else (R256). -/
theorem alignOne_frame (s : State) (c : Cell) : ∃ g r n, s.alignOne c = { s with g := g, r := r, nstamp := n } := by
  unfold State.alignOne
  split
  · exact ⟨s.g, s.r, s.nstamp, rfl⟩
  · generalize alignCells s.rom c = cells
    exact ⟨_, _, _, rfl⟩

theorem foldl_alignOne_frame (s : State) (cs : List Cell) :
    ∃ g r n, cs.foldl State.alignOne s = { s with g := g, r := r, nstamp := n } := by
  induction cs generalizing s with
  | nil => exact ⟨s.g, s.r, s.nstamp, rfl⟩
  | cons c cs ih =>
    obtain ⟨g₁, r₁, n₁, hone⟩ := alignOne_frame s c
    rw [List.foldl_cons, hone]
    obtain ⟨g, r, n, hrest⟩ := ih { s with g := g₁, r := r₁, nstamp := n₁ }
    exact ⟨g, r, n, hrest⟩

theorem aligned_frame (s : State) :
    s.aligned = { s with g := s.aligned.g, r := s.aligned.r, nstamp := s.aligned.nstamp } := by
  obtain ⟨g, r, n, h⟩ := foldl_alignOne_frame { s with nstamp := 0 } (alignCandidates s.row.al)
  rw [show s.aligned = _ from h]

theorem changes_opMxAlign (s : State) : Changes s (opMxAlign s).state := by
  unfold opMxAlign
  split
  · exact .refl
  next hms =>
    show Changes s { s.aligned with ms := .align }
    rw [aligned_frame s]
    exact .matrix (.align s s.aligned rfl (Classical.not_not.mp hms))

theorem changes_opMxTiming (s : State) : Changes s (opMxTiming s).state := by
  unfold opMxTiming
  split
  · exact .refl
  next hms => exact .matrix (.timing s _ rfl (Classical.not_not.mp hms))

theorem changes_opMxDark (s : State) : Changes s (opMxDark s).state := by
  unfold opMxDark
  split
  · exact .refl
  next hms => exact .matrix (.dark s _ rfl (Classical.not_not.mp hms))

theorem changes_opMxFmt (s : State) : Changes s (opMxFmt s).state := by
  unfold opMxFmt
  split
  · exact .refl
  next hms => exact .matrix (.fmt s _ rfl (Classical.not_not.mp hms))

theorem changes_opMxPlace (s : State) : Changes s (opMxPlace s).state := by
  unfold opMxPlace
  split
  · exact .refl
  next h =>
    split
    · exact .refl
    next hlen => exact .matrix (.place s _ rfl (Classical.not_not.mp h).1 (Classical.not_not.mp h).2 (Classical.not_not.mp hlen))

theorem changes_opMxFixed (s : State) : Changes s (opMxFixed s).state := by
  unfold opMxFixed
  split
  · exact .refl
  · exact ((((((changes_opMxAlloc s).andThen changes_opMxFind).andThen changes_opMxSep).andThen
      changes_opMxAlign).andThen changes_opMxTiming).andThen changes_opMxDark).andThen changes_opMxFmt |>.respond

theorem changes_opMxBuild (s : State) : Changes s (opMxBuild s).state := by
  unfold opMxBuild
  split
  · exact .refl
  · exact ((changes_opMxFixed s).andThen changes_opMxPlace).respond

/-! ### Masks (R294, R304, R305) -/

theorem changes_opMkApply (a : Byte) (s : State) : Changes s (opMkApply a s).state := by
  unfold opMkApply
  split
  · exact .refl
  next hms =>
    split
    · exact .refl
    next k _ => exact .matrix (.applyMask s k (Classical.not_not.mp hms))

theorem changes_opMkScore (s : State) : Changes s (opMkScore s).state := by
  unfold opMkScore
  split
  · exact .refl
  next htv => exact .matrix (.setScore s (Classical.not_not.mp htv))

/-- What try-all has made of the state once the masks of `ks` are tried, one at least: `kept` is the best of them and its
score (R305). -/
def Tried (s : State) (ks : List MaskIdx) (acc : State × Option (MaskIdx × Nat)) : Prop :=
  ∃ (trial : MaskIdx) (score : Vector (Option Word) 8) (kept : MaskIdx × Nat),
    acc = ({ s with
      t := trialGrid trial s.size s.g s.r, tmask := trial, tv := true, o := trialGrid kept.1 s.size s.g s.r,
      score := score }, some kept) ∧
    ∀ k ∈ ks, score[k].isSome = true

theorem isSome_getElem_set (score : Vector (Option Word) 8) (k j : MaskIdx) (v : Word)
    (h : j = k ∨ score[j].isSome = true) : (score.set k (some v))[j].isSome = true := by
  by_cases hj : k.val = j.val
  · simp [Fin.getElem_fin, hj]
  · have hscore := h.resolve_left fun e => hj (congrArg Fin.val e.symm)
    simpa [Fin.getElem_fin, hj] using hscore

theorem tried_first (s : State) (k : MaskIdx) : Tried s [k] (tryMask (s, none) k) :=
  ⟨k, _, (k, (s.applyMask k).trialScore), rfl,
    fun _ hj => isSome_getElem_set _ _ _ _ (.inl (List.mem_singleton.mp hj))⟩

theorem Tried.next {s : State} {ks : List MaskIdx} {acc : State × Option (MaskIdx × Nat)} (h : Tried s ks acc)
    (k : MaskIdx) : Tried s (ks ++ [k]) (tryMask acc k) := by
  obtain ⟨trial, score, kept, rfl, hscore⟩ := h
  have hset (v : Word) (j : MaskIdx) (hj : j ∈ ks ++ [k]) : (score.set k (some v))[j].isSome = true :=
    isSome_getElem_set score k j v ((List.mem_append.mp hj).elim (.inr ∘ hscore j) (.inl ∘ List.mem_singleton.mp))
  unfold tryMask
  simp only
  split
  · exact ⟨k, _, (k, _), rfl, hset _⟩
  · exact ⟨k, _, kept, rfl, hset _⟩

theorem Tried.foldl {s : State} {ks : List MaskIdx} {acc : State × Option (MaskIdx × Nat)} (h : Tried s ks acc)
    (more : List MaskIdx) : Tried s (ks ++ more) (more.foldl tryMask acc) := by
  induction more generalizing ks acc with
  | nil => rwa [List.append_nil]
  | cons k more ih =>
    have := ih (h.next k)
    rwa [List.append_assoc] at this

theorem tried_all (s : State) : Tried s (List.finRange 8) ((List.finRange 8).foldl tryMask (s, none)) := 
  (tried_first s 0).foldl [1, 2, 3, 4, 5, 6, 7]

theorem changes_opMkTryall (s : State) : Changes s (opMkTryall s).state := by
  unfold opMkTryall
  split
  · exact .refl
  next hms =>
    obtain ⟨trial, score, kept, hacc, hscore⟩ := tried_all s
    simp only [hacc]
    exact .matrix (.tryAll s trial kept.1 score (zext32 kept.2) (Classical.not_not.mp hms) fun k => hscore k (List.mem_finRange k))

/-! ### Every command and every step -/

theorem changes_opEncodeJob (s : State) : Changes s (opEncodeJob s).state := by
  unfold opEncodeJob
  split
  · exact .refl
  · exact ((((((changes_opVsel s).andThen changes_opBsb).andThen changes_opRsSplit).andThen changes_opRsEccAll).andThen
      changes_opRsIlv).andThen changes_opMxBuild).andThen changes_opMkTryall

theorem changes_opOf (i : Instr) (s : State) : Changes s (opOf i s).state := by
  by_cases hread : isRead i = true
  · rw [opOf_state_of_isRead hread]
    exact .refl
  cases i with
  | nop => exact .refl
  | jobNew => exact .single (.newJob s)
  | encodeJob => exact changes_opEncodeJob s
  | txtPush a => exact changes_opTxtPush a s
  | vsel => exact changes_opVsel s
  | vset a => exact changes_opVset a s
  | bsb => exact changes_opBsb s
  | dcwPush a => exact changes_opDcwPush a s
  | dcwSeal => exact changes_opDcwSeal s
  | pClr a => exact changes_opPClr a s
  | pPush a b => exact changes_opPPush a b s
  | pMul => exact changes_opPMul s
  | pDiv => exact changes_opPDiv s
  | pGen a => exact changes_opPGen a s
  | pSyn a => exact changes_opPSyn a s
  | pMov a b => exact changes_opPMov a b s
  | rsSplit => exact changes_opRsSplit s
  | rsEcc a => exact changes_opRsEccBlock a.toNat s
  | rsEccAll => exact changes_opRsEccAll s
  | rsSyn a => exact changes_opRsSyn a s
  | rsIlv => exact changes_opRsIlv s
  | mxAlloc => exact changes_opMxAlloc s
  | mxFind => exact changes_opMxFind s
  | mxSep => exact changes_opMxSep s
  | mxAlign => exact changes_opMxAlign s
  | mxTiming => exact changes_opMxTiming s
  | mxDark => exact changes_opMxDark s
  | mxFmt => exact changes_opMxFmt s
  | mxPlace => exact changes_opMxPlace s
  | mxFixed => exact changes_opMxFixed s
  | mxBuild => exact changes_opMxBuild s
  | mkApply a => exact changes_opMkApply a s
  | mkScore => exact changes_opMkScore s
  | mkTryall => exact changes_opMkTryall s
  | _ => exact absurd rfl hread

theorem changes_faultEntry (s : State) (c : FaultCode) (n : Nat) : Changes s (s.faultEntry c n) := by
  unfold State.faultEntry
  split
  · exact .data (.respond ..)
  next hflt => exact (Changes.data (.recordFault s c n (Bool.eq_false_iff.mpr hflt))).trans (Changes.data (.respond ..))

theorem changes_settle (r : Result) : Changes r.state r.settle := by
  cases r with
  | done s v => exact .data (.respond ..)
  | raised s c n => exact changes_faultEntry s c n

theorem changes_exec {i : Instr} {s t : State} (h : exec i s = .next t) : Changes s t := by
  have hrun : Changes s (opOf i s).settle := (changes_opOf i s).trans (changes_settle _)
  rw [exec_eq_run] at h
  split at h
  · exact Host.Outcome.next.inj h ▸ hrun
  · unfold runLive at h
    split at h
    · exact Host.Outcome.next.inj h ▸ .data (.respond ..)
    · exact Host.Outcome.next.inj h ▸ hrun

theorem changes_illegalWord (s : State) (w : Word) (e : DecodeError) : Changes s (s.illegalWord w e) := by
  unfold State.illegalWord
  split
  · exact .data (.respond ..)
  · exact changes_faultEntry ..

/-- Everything a step can do is changes of the kinds above. -/
theorem changes_step {s t : State} (h : step s = .next t) : Changes s t := by
  cases hinput : s.input with
  | nil =>
    rw [step_idle hinput] at h
    exact Host.Outcome.next.inj h ▸ .refl
  | cons x rest => cases x with
    | reset =>
      rw [step_reset hinput] at h
      exact Host.Outcome.next.inj h ▸ .single (.reset ..)
    | resetDuring w =>
      rw [step_resetDuring hinput] at h
      exact Host.Outcome.next.inj h ▸ .single (.reset ..)
    | command w =>
      have haccept : Changes s (s.accept w rest) := .data (.accept ..)
      cases hw : decode w with
      | ok i =>
        rw [step_command hinput hw] at h
        exact haccept.trans (changes_exec h)
      | error e =>
        rw [step_illegal hinput hw] at h
        exact Host.Outcome.next.inj h ▸ haccept.trans (changes_illegalWord ..)

end Sys2Proof.Machine

/-! ## Grids under stamping and reserving -/

namespace Sys2Proof.Machine

open Sys2Proof.Safety

/-! ### Cells written and cells reserved (R251) -/

theorem get_setAll_of_notMem (g : Grid) {ws : List (Cell × Bool)} {x y : Nat} (h : (x, y) ∉ ws.map Prod.fst) :
    (g.setAll ws).get x y = g.get x y :=
  Grid.get_setAll_not_mem g ws x y fun w hw e => h (List.mem_map.mpr ⟨w, hw, e⟩)

theorem lt_of_get {n : Nat} {g : Grid} (h : g.wf n = true) {x y : Nat} (hxy : g.get x y = true) : x < n ∧ y < n := by
  refine Classical.byContradiction fun hout => ?_
  rw [Grid.get_outside h (by omega)] at hxy
  cases hxy

theorem reserve_of_mem {s : State} (hr : s.r.wf s.size = true) {cells : List Cell} {x y : Nat} (hx : x < s.size)
    (hy : y < s.size) (h : (x, y) ∈ cells) : (s.reserve cells).r.get x y = true := by
  refine Grid.get_setAll_mem hr _ hx hy (List.mem_map.mpr ⟨_, h, rfl⟩) fun w hw _ => ?_
  obtain ⟨c, -, rfl⟩ := List.mem_map.mp hw
  rfl

/-- What is reserved stays reserved. -/
theorem reserve_of_reserved {s : State} (hr : s.r.wf s.size = true) (cells : List Cell) {x y : Nat}
    (h : s.r.get x y = true) : (s.reserve cells).r.get x y = true := by
  obtain ⟨hx, hy⟩ := lt_of_get hr h
  by_cases hmem : (x, y) ∈ cells
  · exact reserve_of_mem hr hx hy hmem
  · refine (get_setAll_of_notMem s.r ?_).trans h
    simpa using hmem

/-- Stamping reserves the cells it writes. -/
theorem stamp_r_eq (s : State) (cells : List (Cell × Bool)) : (s.stamp cells).r = (s.reserve (cells.map Prod.fst)).r := by
  unfold State.stamp State.reserve
  rw [List.map_map]
  rfl

theorem stamp_of_mem {s : State} (hr : s.r.wf s.size = true) {cells : List (Cell × Bool)} {x y : Nat} (hx : x < s.size)
    (hy : y < s.size) (h : (x, y) ∈ cells.map Prod.fst) : (s.stamp cells).r.get x y = true := by
  rw [stamp_r_eq]; exact reserve_of_mem hr hx hy h

theorem stamp_of_reserved {s : State} (hr : s.r.wf s.size = true) (cells : List (Cell × Bool)) {x y : Nat}
    (h : s.r.get x y = true) : (s.stamp cells).r.get x y = true := by
  rw [stamp_r_eq]; exact reserve_of_reserved hr _ h

/-! ### The alignment patterns (R255, R256) -/

theorem footprintReserved_iff (rom : Rom) (r : Grid) (c : Cell) :
    footprintReserved rom r c = true ↔ ∃ x y, (x, y) ∈ (alignCells rom c).map Prod.fst ∧ r.get x y = true := by
  simp [footprintReserved]

/-- What holds of the state `u` once some candidates of step 3 from the state `s` are visited: a cell in no footprint that was
free at the start is as it was. -/
structure Aligning (s u : State) : Prop where
  rom : u.rom = s.rom
  size : u.size = s.size
  gridG : u.g.wf s.size = true
  gridR : u.r.wf s.size = true
  reserved : ∀ x y, s.r.get x y = true → u.r.get x y = true
  kept : ∀ x y, (∀ c ∈ alignCandidates s.row.al, footprintReserved s.rom s.r c = false →
    (x, y) ∉ (alignCells s.rom c).map Prod.fst) → u.g.get x y = s.g.get x y

theorem Aligning.alignOne {s u : State} (h : Aligning s u) {c : Cell} (hc : c ∈ alignCandidates s.row.al) :
    Aligning s (u.alignOne c) := by
  unfold State.alignOne
  split
  · exact h
  next hfree =>
    have hr : u.r.wf u.size = true := h.size ▸ h.gridR
    have hstart : footprintReserved s.rom s.r c = false := by
      refine Bool.eq_false_iff.mpr fun hres => ?_
      obtain ⟨x, y, hmem, hget⟩ := (footprintReserved_iff ..).mp hres
      exact hfree ((footprintReserved_iff ..).mpr ⟨x, y, h.rom ▸ hmem, h.reserved x y hget⟩)
    have hout : ∀ x y, (∀ c ∈ alignCandidates s.row.al, footprintReserved s.rom s.r c = false →
        (x, y) ∉ (alignCells s.rom c).map Prod.fst) → (x, y) ∉ (alignCells u.rom c).map Prod.fst :=
      fun x y hxy => h.rom ▸ hxy c hc hstart
    generalize alignCells u.rom c = cells at hout ⊢
    exact {
      rom := h.rom
      size := h.size
      gridG := Grid.wf_setAll h.gridG _
      gridR := Grid.wf_setAll h.gridR _
      reserved := fun x y hget => stamp_of_reserved hr cells (h.reserved x y hget)
      kept := fun x y hxy => (get_setAll_of_notMem u.g (hout x y hxy)).trans (h.kept x y hxy) }

theorem aligning_aligned {s : State} (hg : s.g.wf s.size = true) (hr : s.r.wf s.size = true) : Aligning s s.aligned :=
  List.foldlRecOn (motive := Aligning s) _ _ ⟨rfl, rfl, hg, hr, fun _ _ => id, fun _ _ _ => rfl⟩
    fun _ hu _ hc => hu.alignOne hc

end Sys2Proof.Machine

/-! ## The matrix path under a change -/

namespace Sys2Proof.Machine

open Sys2Proof.Safety

/-! ### Changes that leave the matrix path alone -/

/-- The state with the ROM, the tier and the matrix path of another. -/
def State.withMatrixOf (u s : State) : State :=
  { u with
    rom := s.rom, ms := s.ms, tier := s.tier, size := s.size, tv := s.tv, tmask := s.tmask, best := s.best,
    bestScore := s.bestScore, nstamp := s.nstamp, g := s.g, r := s.r, t := s.t, o := s.o, score := s.score }

/-- A change of the data path writes nothing of the matrix path, and `DS` moves between the stages after the choice of the
tier and before the final sequence, if at all. -/
theorem DataChange.frame {s t : State} (h : DataChange s t) :
    t = t.withMatrixOf s ∧ (t.ds = s.ds ∨ s.ds ≠ .text ∧ s.ds ≠ .final ∧ t.ds ≠ .text) := by
  cases h with
  | accept | respond | recordFault | pushText | pushCodeword | writePoly => exact ⟨rfl, .inl rfl⟩
  | buildBits bits hds | sealBits hds | splitBlocks hds | interleave hds =>
    exact ⟨rfl, .inr ⟨by rw [hds]; decide, by rw [hds]; decide, by simp⟩⟩
  | eccBlock b hds =>
    obtain ⟨n, d, heq, hd⟩ := eccBlock_frame s b
    rw [heq]
    have hopen : s.ds ≠ .text ∧ s.ds ≠ .final := by
      rcases eccStage_iff.mp hds with h | h <;> rw [h] <;> decide
    exact ⟨rfl, hd.imp_right fun hdone => ⟨hopen.1, hopen.2, show d ≠ .text by rw [hdone]; decide⟩⟩

/-! ### The matrix path agrees with its stage (R24, R26, R27, R32) -/

theorem MatrixStage.code_pos {m : MatrixStage} : 1 ≤ m.code ↔ m ≠ .none := by cases m <;> decide

theorem MatrixStage.code_eq_nine {m : MatrixStage} : m.code = 9 ↔ m = .masked := by cases m <;> decide

/-- There is no trial grid before the data is placed. -/
theorem tv_of_lt_eight {s : State} (h : MatrixInv s) (hms : s.ms.code < 8) : s.tv ≠ true :=
  fun htv => absurd (h.trial htv) (by omega)

theorem ne_masked_of_lt_nine {m : MatrixStage} (h : m.code < 9) : m ≠ .masked :=
  fun hm => absurd (MatrixStage.code_eq_nine.mpr hm) (by omega)

theorem matrixInv_withMatrixOf {u s : State} (h : MatrixInv s)
    (hds : u.ds = s.ds ∨ s.ds ≠ .text ∧ s.ds ≠ .final ∧ u.ds ≠ .text) : MatrixInv (u.withMatrixOf s) where
  rom := h.rom
  tier := fun hu => h.tier (hds.elim (fun e => e ▸ hu) (·.1))
  sizeZero := h.sizeZero
  allocated := fun hms => ⟨hds.elim (fun e => e ▸ (h.allocated hms).1) (·.2.2), (h.allocated hms).2⟩
  gridG := h.gridG
  gridR := h.gridR
  gridT := h.gridT
  gridO := h.gridO
  placed := fun hms => hds.elim (fun e => e.trans (h.placed hms)) fun hopen => absurd (h.placed hms) hopen.2.1
  trial := h.trial
  noTrial := h.noTrial
  notMasked := h.notMasked
  scored := h.scored
  masked := h.masked
  notStamped := h.notStamped

/-- Before a tier is chosen there is no grid. -/
theorem ms_none_of_text {s : State} (h : MatrixInv s) (hds : s.ds = .text) : s.ms = .none :=
  Classical.byContradiction fun hms => (h.allocated hms).1 hds

/-- Without a grid the matrix path holds nothing, whatever is chosen as the tier. -/
theorem matrixInv_chooseTier {s : State} {v : Nat} (h : MatrixInv s) (hds : s.ds = .text) (hv : 1 ≤ v ∧ v ≤ 40) :
    MatrixInv { s with tier := v, ds := .tiered } :=
  have hms : s.ms = .none := ms_none_of_text h hds
  have hplaced : ¬ 8 ≤ s.ms.code := by rw [hms]; decide
  { h with
    tier := fun _ => hv
    allocated := fun hne => absurd hms hne
    placed := fun h8 => absurd h8 hplaced }

/-- Where there is a grid, the builder has what its steps work on (R250). -/
theorem gridReady_of_stage {s : State} (h : MatrixInv s) (hms : 1 ≤ s.ms.code) : GridReady s :=
  have hne := MatrixStage.code_pos.mp hms
  ⟨h.rom, h.tier (h.allocated hne).1, (h.allocated hne).2, h.gridG hne, h.gridR hne⟩

/-- A step of the builder: new grids, a new count and the next stage. -/
theorem matrixInv_built {s : State} {g r : Grid} {n : Nat} {m : MatrixStage} (h : MatrixInv s) (hms : 1 ≤ s.ms.code)
    (hnext : m.code = s.ms.code + 1) (hm : m.code < 9) (hg : g.wf s.size = true) (hr : r.wf s.size = true)
    (hplaced : 8 ≤ m.code → s.ds = .final) (hn : m.code < 4 → n = 0) :
    MatrixInv { s with g := g, r := r, nstamp := n, ms := m } :=
  have htv : s.tv ≠ true := tv_of_lt_eight h (by omega)
  have hne : m ≠ .none := MatrixStage.code_pos.mp (by omega)
  { h with
    sizeZero := fun h0 => absurd h0 hne
    allocated := fun _ => h.allocated (MatrixStage.code_pos.mp hms)
    gridG := fun _ => hg
    gridR := fun _ => hr
    gridO := fun h9 => absurd h9 (ne_masked_of_lt_nine hm)
    placed := hplaced
    trial := fun ht => absurd ht htv
    notMasked := fun _ => h.notMasked (ne_masked_of_lt_nine (by omega))
    masked := fun h9 => absurd h9 (ne_masked_of_lt_nine hm)
    notStamped := hn }

theorem matrixInv_stamp {s : State} {m : MatrixStage} (h : MatrixInv s) (cells : List (Cell × Bool))
    (hms : 1 ≤ s.ms.code) (hnext : m.code = s.ms.code + 1) (hm : m.code < 8) : MatrixInv { s.stamp cells with ms := m } :=
  have hready := gridReady_of_stage h hms
  matrixInv_built (s := s) h hms hnext (by omega) (Grid.wf_setAll hready.gridG _) (Grid.wf_setAll hready.gridR _)
    (fun h8 => absurd h8 (by omega)) fun h4 => h.notStamped (by omega)

theorem matrixInv_reserve {s : State} {m : MatrixStage} (h : MatrixInv s) (cells : List Cell) (hms : 1 ≤ s.ms.code)
    (hnext : m.code = s.ms.code + 1) (hm : m.code < 8) : MatrixInv { s.reserve cells with ms := m } :=
  have hready := gridReady_of_stage h hms
  matrixInv_built (s := s) h hms hnext (by omega) hready.gridG (Grid.wf_setAll hready.gridR _)
    (fun h8 => absurd h8 (by omega)) fun h4 => h.notStamped (by omega)

theorem matrixInv_reset : MatrixInv State.reset := by
  constructor
  case rom => rfl
  all_goals decide

theorem matrixInv_alloc {s : State} (h : MatrixInv s) (hds : 1 ≤ s.ds.code) (hms : s.ms = .none) :
    MatrixInv { s with g := .blank s.row.side, r := .blank s.row.side, size := s.row.side, ms := .alloc } :=
  have hms0 : s.ms.code = 0 := by rw [hms]; rfl
  have htv : s.tv ≠ true := tv_of_lt_eight h (by omega)
  have htext : s.ds ≠ .text := fun e => by rw [e] at hds; cases hds
  have hside : s.row.side = 21 + 4 * (s.tier - 1) := by
    unfold State.row
    rw [h.rom]
    exact (standard_row_side (h.tier htext).1 (h.tier htext).2).1
  { h with
    sizeZero := nofun
    allocated := fun _ => ⟨htext, hside⟩
    gridG := fun _ => Grid.wf_blank _
    gridR := fun _ => Grid.wf_blank _
    gridT := fun ht => absurd ht htv
    gridO := nofun
    placed := nofun
    trial := fun ht => absurd ht htv
    notMasked := fun _ => h.notMasked (by rw [hms]; decide)
    masked := nofun
    notStamped := fun _ => h.notStamped (by omega) }

theorem matrixInv_applyMask {s : State} (h : MatrixInv s) (k : MaskIdx) (hms : 8 ≤ s.ms.code) : MatrixInv (s.applyMask k) :=
  { h with
    gridT := fun _ => Grid.wf_tabulate _ _
    trial := fun _ => hms
    noTrial := nofun
    scored := fun _ _ => rfl
    masked := fun h9 => ⟨rfl, (h.masked h9).2⟩ }

theorem matrixInv_setScore {s : State} (h : MatrixInv s) (k : MaskIdx) (v : Nat) (htv : s.tv = true) :
    MatrixInv (s.setScore k v) :=
  { h with
    scored := fun _ _ => htv
    masked := fun h9 => ⟨htv, fun j => isSome_getElem_set _ _ _ _ (.inr ((h.masked h9).2 j))⟩ }

theorem matrixInv_of_matrixChange {s t : State} (h : MatrixChange s t) (hs : MatrixInv s) : MatrixInv t := by
  cases h with
  | alloc hds hms => exact matrixInv_alloc hs hds hms
  | find cells _ hms | timing cells _ hms | dark cells _ hms =>
    exact matrixInv_stamp hs _ (by rw [hms]; decide) (by rw [hms]; rfl) (by decide)
  | sep cells _ hms | fmt cells _ hms =>
    exact matrixInv_reserve hs _ (by rw [hms]; decide) (by rw [hms]; rfl) (by decide)
  | align u hu hms =>
    have hready := gridReady_of_stage hs (by rw [hms]; decide)
    have haligned : Aligning s u := hu ▸ aligning_aligned hready.gridG hready.gridR
    exact matrixInv_built hs (by rw [hms]; decide) (by rw [hms]; rfl) (by decide) haligned.gridG haligned.gridR nofun
      nofun
  | place cells _ hms hds =>
    have hready := gridReady_of_stage hs (by rw [hms]; decide)
    exact matrixInv_built (s := s) (n := s.nstamp) hs (by rw [hms]; decide) (by rw [hms]; rfl) (by decide)
      (Grid.wf_setAll hready.gridG _) hready.gridR (fun _ => hds) nofun
  | applyMask k hms => exact matrixInv_applyMask hs k hms
  | setScore htv => exact matrixInv_setScore hs _ _ htv
  | tryAll trial best score bestScore hms hscore =>
    exact { hs with
      sizeZero := nofun
      allocated := fun _ => hs.allocated (MatrixStage.code_pos.mp (by omega))
      gridG := fun _ => hs.gridG (MatrixStage.code_pos.mp (by omega))
      gridR := fun _ => hs.gridR (MatrixStage.code_pos.mp (by omega))
      gridT := fun _ => Grid.wf_tabulate _ _
      gridO := fun _ => Grid.wf_tabulate _ _
      placed := fun _ => hs.placed hms
      trial := fun _ => show 8 ≤ 9 by decide
      noTrial := nofun
      notMasked := fun h9 => absurd rfl h9
      scored := fun _ _ => rfl
      masked := fun _ => ⟨rfl, hscore⟩
      notStamped := nofun }

theorem matrixInv_of_change {s t : State} (h : Change s t) (hs : MatrixInv s) : MatrixInv t := by
  cases h with
  | reset rest => exact { matrixInv_reset with rom := rfl }
  | newJob => exact { matrixInv_reset with rom := hs.rom }
  | chooseTier v hds hv => exact matrixInv_chooseTier hs hds (hv hs.rom)
  | data h => rw [h.frame.1]; exact matrixInv_withMatrixOf hs h.frame.2
  | matrix h => exact matrixInv_of_matrixChange h hs

end Sys2Proof.Machine

/-! ## Separators, format areas and version areas -/

namespace Sys2Proof.Machine

open Sys2Proof.Safety

/-! ### The cells of the steps, by their coordinates (R253 to R260) -/

theorem mem_patternCells {k : Nat} {table : List (List Bool)} {ox oy x y : Nat} :
    (x, y) ∈ (patternCells k table ox oy).map Prod.fst ↔ (ox ≤ x ∧ x < ox + k) ∧ oy ≤ y ∧ y < oy + k := by
  simp only [patternCells, List.map_flatMap, List.map_map, List.mem_flatMap, List.mem_map, List.mem_range,
    Function.comp_apply, Prod.mk.injEq]
  constructor
  · rintro ⟨dx, hdx, dy, hdy, rfl, rfl⟩
    omega
  · intro h
    exact ⟨x - ox, by omega, y - oy, by omega, by omega, by omega⟩

theorem isSome_locatorAt {n x y : Nat} : (locatorAt n x y).isSome = true ↔
    x < 7 ∧ y < 7 ∨ (n - 7 ≤ x ∧ x < n) ∧ y < 7 ∨ x < 7 ∧ n - 7 ≤ y ∧ y < n := by
  unfold locatorAt
  split
  · exact iff_of_true rfl (by omega)
  split
  · exact iff_of_true rfl (by omega)
  split
  · exact iff_of_true rfl (by omega)
  · exact iff_of_false nofun (by omega)

/-- Step 1 stamps the locator cells. -/
theorem mem_finderCells {rom : Rom} {n x y : Nat} (hn : 14 ≤ n) :
    (x, y) ∈ (finderCells rom n).map Prod.fst ↔ (locatorAt n x y).isSome = true := by
  simp only [finderCells, locatorOrigins, List.flatMap_cons, List.flatMap_nil, List.map_append, List.mem_append,
    mem_patternCells, isSome_locatorAt, List.map_nil, List.not_mem_nil, or_false]
  omega

theorem mem_alignCells {rom : Rom} {c : Cell} {x y : Nat} :
    (x, y) ∈ (alignCells rom c).map Prod.fst ↔
      (c.1 - 2 ≤ x ∧ x < c.1 - 2 + 5) ∧ c.2 - 2 ≤ y ∧ y < c.2 - 2 + 5 :=
  mem_patternCells

theorem mem_timingCells {n x y : Nat} (h : (x, y) ∈ (timingCells n).map Prod.fst) :
    8 ≤ x ∧ x + 9 ≤ n ∧ y = 6 ∨ 8 ≤ y ∧ y + 9 ≤ n ∧ x = 6 := by
  simp only [timingCells, List.map_flatMap, List.mem_flatMap, List.mem_range, List.map_cons, List.map_nil,
    List.mem_cons, List.not_mem_nil, or_false, Prod.mk.injEq] at h
  omega

theorem isSeparator_iff {n x y : Nat} : isSeparator n x y = true ↔
    x = 7 ∧ y ≤ 7 ∨ y = 7 ∧ x ≤ 7 ∨ x = n - 8 ∧ y ≤ 7 ∨ y = 7 ∧ n - 8 ≤ x ∧ x < n ∨ y = n - 8 ∧ x ≤ 7 ∨
      x = 7 ∧ n - 8 ≤ y ∧ y < n := by
  simp [isSeparator, or_assoc, and_assoc]

theorem isFormat_iff {n x y : Nat} : isFormat n x y = true ↔
    y = 8 ∧ x ≤ 8 ∨ x = 8 ∧ y ≤ 8 ∨ y = 8 ∧ n - 8 ≤ x ∧ x < n ∨ x = 8 ∧ n - 8 ≤ y ∧ y < n := by
  simp [isFormat, or_assoc, and_assoc]

theorem isVersion_iff {v n x y : Nat} : isVersion v n x y = true ↔
    7 ≤ v ∧ (x ≤ 5 ∧ n - 11 ≤ y ∧ y + 9 ≤ n ∨ y ≤ 5 ∧ n - 11 ≤ x ∧ x + 9 ≤ n) := by
  simp [isVersion, and_assoc]

theorem isBlank_iff {v n x y : Nat} : isBlank v n x y = true ↔
    (isSeparator n x y = true ∨ isFormat n x y = true ∨ isVersion v n x y = true) ∧
      (x ≠ 6 ∨ y ≠ 8) ∧ (x ≠ 8 ∨ y ≠ 6) ∧ (x ≠ 8 ∨ y ≠ n - 8) := by
  simp [isBlank, or_assoc, and_assoc]

/-- Step 2 reserves the separators. -/
theorem mem_separatorCells {n x y : Nat} (hn : 16 ≤ n) (h : isSeparator n x y = true) : (x, y) ∈ separatorCells n := by
  simp only [separatorCells, List.mem_flatMap, List.mem_range, List.mem_cons, List.not_mem_nil, or_false, Prod.mk.injEq]
  obtain h | h | h | h | h | h := isSeparator_iff.mp h
  · exact ⟨y, by omega⟩
  · exact ⟨x, by omega⟩
  · exact ⟨y, by omega⟩
  · exact ⟨x - (n - 8), by omega⟩
  · exact ⟨x, by omega⟩
  · exact ⟨y - (n - 8), by omega⟩

theorem isSeparator_lt {n x y : Nat} (hn : 16 ≤ n) (h : isSeparator n x y = true) : x < n ∧ y < n := by
  have := isSeparator_iff.mp h
  omega

/-- Step 6 reserves the format areas and the version areas. -/
theorem mem_fmtCells {v n x y : Nat} (hn : 21 ≤ n) (h : isFormat n x y = true ∨ isVersion v n x y = true) :
    (x, y) ∈ formatCells n ++ versionCells v n := by
  rw [List.mem_append]
  refine h.imp (fun h => ?_) fun h => ?_
  · simp only [formatCells, List.mem_append, List.mem_flatMap, List.mem_range, List.mem_cons, List.not_mem_nil, or_false,
      Prod.mk.injEq]
    obtain h | h | h | h := isFormat_iff.mp h
    · exact .inl ⟨x, by omega⟩
    · exact .inl ⟨y, by omega⟩
    · exact .inr ⟨x - (n - 8), by omega⟩
    · exact .inr ⟨y - (n - 8), by omega⟩
  · obtain ⟨hv, h⟩ := isVersion_iff.mp h
    rw [versionCells, if_pos hv]
    simp only [List.mem_flatMap, List.mem_range, List.mem_cons, List.not_mem_nil, or_false, Prod.mk.injEq]
    obtain h | h := h
    · exact ⟨x, by omega, y - (n - 11), by omega⟩
    · exact ⟨y, by omega, x - (n - 11), by omega⟩

/-- The traversal visits free cells only. -/
theorem free_of_mem_zigzag {n : Nat} {r : Grid} {x y : Nat} (h : (x, y) ∈ zigzag n r) : r.get x y = false := by
  simp only [zigzag, sweepCells, List.mem_flatMap, List.mem_filter] at h
  obtain ⟨-, -, -, -, -, hfree⟩ := h
  simpa using hfree

/-- A reserved cell of a trial grid is as in the grid it is built from (R294). -/
theorem get_trialGrid_of_reserved {k : MaskIdx} {n : Nat} {g r : Grid} {x y : Nat} (hx : x < n) (hy : y < n)
    (hr : r.get x y = true) : (trialGrid k n g r).get x y = g.get x y := by
  rw [trialGrid, Grid.get_tabulate n _ hx hy, hr]
  simp

/-! ### Where a blank cell is not (R267) -/

section Blank

variable {v n x y : Nat} (hn : 21 ≤ n) (h : isBlank v n x y = true)

include hn h

theorem isBlank_lt : x < n ∧ y < n := by
  rw [isBlank_iff, isSeparator_iff, isFormat_iff, isVersion_iff] at h
  omega

theorem isBlank_notMem_finderCells (rom : Rom) : (x, y) ∉ (finderCells rom n).map Prod.fst := by
  rw [mem_finderCells (by omega), isSome_locatorAt]
  rw [isBlank_iff, isSeparator_iff, isFormat_iff, isVersion_iff] at h
  omega

theorem isBlank_notMem_timingCells : (x, y) ∉ (timingCells n).map Prod.fst := by
  intro hmem
  have := mem_timingCells hmem
  rw [isBlank_iff, isSeparator_iff, isFormat_iff, isVersion_iff] at h
  omega

theorem isBlank_ne_darkModule (hside : n = 21 + 4 * (v - 1)) (hv : 1 ≤ v) : (x, y) ≠ darkModule v := by
  intro hdark
  obtain ⟨hx, hy⟩ := Prod.mk.inj hdark
  have := (isBlank_iff.mp h).2.2.2
  omega

/-- A pattern whose centre is not on a locator keeps clear of the blank cells, wherever the alignment coordinates are. -/
theorem isBlank_notMem_alignCells (rom : Rom) {cx cy : Nat}
    (hcx : cx = 6 ∨ cx + 7 = n ∨ 16 ≤ cx ∧ cx + 16 ≤ n) (hcy : cy = 6 ∨ cy + 7 = n ∨ 16 ≤ cy ∧ cy + 16 ≤ n)
    (hfree : ¬ (locatorAt n cx cy).isSome = true) : (x, y) ∉ (alignCells rom (cx, cy)).map Prod.fst := by
  rw [mem_alignCells]
  rw [isSome_locatorAt] at hfree
  rw [isBlank_iff, isSeparator_iff, isFormat_iff, isVersion_iff] at h
  rcases hcx with rfl | hcx | hcx <;> rcases hcy with rfl | hcy | hcy <;> omega

end Blank

end Sys2Proof.Machine

namespace Sys2Proof.Machine

open Sys2Proof.Safety

/-! ### The invariant under a change of the matrix path -/

theorem side_of_gridReady {s : State} (h : GridReady s) : 21 ≤ s.size := by
  have := h.side
  omega

/-- From step 1 on the locator cells are reserved (R266). -/
def LocatorsReserved (s : State) : Prop :=
  2 ≤ s.ms.code → ∀ x y, (locatorAt s.size x y).isSome = true → s.r.get x y = true

theorem locatorsReserved_of_locatorInv {s : State} (h : LocatorInv s) : LocatorsReserved s := by
  intro hms x y hxy
  obtain ⟨b, hb⟩ := Option.isSome_iff_exists.mp hxy
  exact h.reserved hms x y b hb

/-- Once there is a grid, its side and its tier stay, and what is reserved stays reserved (R33). -/
theorem MatrixChange.keeps_reserved {s t : State} (h : MatrixChange s t) (hready : GridReady s) (hms : 1 ≤ s.ms.code) :
    t.tier = s.tier ∧ t.size = s.size ∧ ∀ x y, s.r.get x y = true → t.r.get x y = true := by
  have hr := hready.gridR
  cases h with
  | alloc hds h0 => rw [h0] at hms; cases hms
  | find | timing | dark => exact ⟨rfl, rfl, fun _ _ => stamp_of_reserved hr _⟩
  | sep | fmt => exact ⟨rfl, rfl, fun _ _ => reserve_of_reserved hr _⟩
  | align u hu => exact ⟨rfl, rfl, hu ▸ (aligning_aligned hready.gridG hr).reserved⟩
  | place | applyMask | setScore | tryAll => exact ⟨rfl, rfl, fun _ _ => id⟩

/-- Cells reserved from stage `k` on are reserved after a change if the change that reaches the stage reserves them. -/
theorem MatrixChange.reserved_from {s t : State} (h : MatrixChange s t) (hs : MatrixInv s) {k : Nat} (hk : 1 ≤ k)
    {cell : Nat → Nat → Nat → Nat → Prop}
    (hold : k ≤ s.ms.code → ∀ x y, cell s.tier s.size x y → s.r.get x y = true)
    (hnew : s.ms.code < k → k ≤ t.ms.code → ∀ x y, cell t.tier t.size x y → t.r.get x y = true)
    (ht : k ≤ t.ms.code) (x y : Nat) (hxy : cell t.tier t.size x y) : t.r.get x y = true := by
  by_cases hlt : s.ms.code < k
  · exact hnew hlt ht x y hxy
  · obtain ⟨htier, hsize, hkeep⟩ := h.keeps_reserved (gridReady_of_stage hs (by omega)) (by omega)
    rw [htier, hsize] at hxy
    exact hkeep x y (hold (by omega) x y hxy)

theorem locatorsReserved_of_matrixChange {s t : State} (h : MatrixChange s t) (hs : MatrixInv s)
    (hloc : LocatorsReserved s) : LocatorsReserved t := by
  refine h.reserved_from hs (cell := fun _ n x y => (locatorAt n x y).isSome = true) (by decide) hloc
    fun hlt ht x y hxy => ?_
  cases h
  case find cells hcells hms =>
    have hready := gridReady_of_stage hs (by rw [hms]; decide)
    have hside := side_of_gridReady hready
    replace hxy : (locatorAt s.size x y).isSome = true := hxy
    have hbound := isSome_locatorAt.mp hxy
    exact stamp_of_mem hready.gridR (by omega) (by omega) (hcells ▸ (mem_finderCells (by omega)).mpr hxy)
  -- No other change reaches the stage.
  all_goals simp_all [MatrixStage.code] <;> omega

/-- The separators are reserved from step 2 on. -/
theorem separatorsReserved_of_matrixChange {s t : State} (h : MatrixChange s t) (hs : BlankInv s) :
    3 ≤ t.ms.code → ∀ x y, isSeparator t.size x y = true → t.r.get x y = true := by
  refine h.reserved_from hs.matrix (cell := fun _ n x y => isSeparator n x y = true) (by decide) hs.separators
    fun hlt ht x y hxy => ?_
  cases h
  case sep cells hcells hms =>
    have hready := gridReady_of_stage hs.matrix (by rw [hms]; decide)
    have hside := side_of_gridReady hready
    replace hxy : isSeparator s.size x y = true := hxy
    have hbound := isSeparator_lt (by omega) hxy
    exact reserve_of_mem hready.gridR hbound.1 hbound.2 (hcells ▸ mem_separatorCells (by omega) hxy)
  -- No other change reaches the stage.
  all_goals simp_all [MatrixStage.code] <;> omega

/-- Every blank cell is reserved from step 6 on. -/
theorem blankReserved_of_matrixChange {s t : State} (h : MatrixChange s t) (hs : BlankInv s) :
    7 ≤ t.ms.code → ∀ x y, isBlank t.tier t.size x y = true → t.r.get x y = true := by
  refine h.reserved_from hs.matrix (cell := fun v n x y => isBlank v n x y = true) (by decide) hs.reserved
    fun hlt ht x y hxy => ?_
  cases h
  case fmt cells hcells hms =>
    have hready := gridReady_of_stage hs.matrix (by rw [hms]; decide)
    have hside := side_of_gridReady hready
    replace hxy : isBlank s.tier s.size x y = true := hxy
    have hbound := isBlank_lt hside hxy
    obtain hsep | harea := (isBlank_iff.mp hxy).1
    · exact reserve_of_reserved hready.gridR cells (hs.separators (by rw [hms]; decide) x y hsep)
    · exact reserve_of_mem hready.gridR hbound.1 hbound.2 (hcells ▸ mem_fmtCells hside harea)
  -- No other change reaches the stage.
  all_goals simp_all [MatrixStage.code] <;> omega

/-- A candidate of step 3 that is not skipped keeps clear of the blank cells: its centre is not on a locator. -/
theorem isBlank_notMem_footprint {s : State} (hready : GridReady s)
    (hloc : ∀ x y, (locatorAt s.size x y).isSome = true → s.r.get x y = true) {x y : Nat}
    (hxy : isBlank s.tier s.size x y = true) {c : Cell} (hc : c ∈ alignCandidates s.row.al)
    (hfree : footprintReserved s.rom s.r c = false) : (x, y) ∉ (alignCells s.rom c).map Prod.fst := by
  obtain ⟨cx, hcx, cy, hcy, rfl⟩ : ∃ cx ∈ s.row.al, ∃ cy ∈ s.row.al, (cx, cy) = c := by
    simpa [alignCandidates] using hc
  obtain ⟨hrowside, hal⟩ := standard_row_side hready.tier.1 hready.tier.2
  rw [hrowside, ← hready.side, ← hready.rom] at hal
  refine isBlank_notMem_alignCells (side_of_gridReady hready) hxy s.rom (hal cx hcx) (hal cy hcy) fun hcentre => ?_
  have hreserved : footprintReserved s.rom s.r (cx, cy) = true :=
    (footprintReserved_iff ..).mpr ⟨cx, cy, mem_alignCells.mpr (by omega), hloc cx cy hcentre⟩
  rw [hreserved] at hfree
  cases hfree

/-- The steps leave the blank cells of G light: they stamp other cells, and step 7 writes free cells only (R267). -/
theorem blankLight_of_matrixChange {s t : State} (h : MatrixChange s t) (hloc : LocatorsReserved s) (hs : BlankInv s) :
    1 ≤ t.ms.code → ∀ x y, isBlank t.tier t.size x y = true → t.g.get x y = false := by
  intro ht x y hxy
  by_cases hms : 1 ≤ s.ms.code
  · have hready := gridReady_of_stage hs.matrix hms
    have hside := side_of_gridReady hready
    obtain ⟨htier, hsize, -⟩ := h.keeps_reserved hready hms
    rw [htier, hsize] at hxy
    have hlight := hs.inG hms x y hxy
    cases h with
    | alloc _ h0 => rw [h0] at hms; cases hms
    | find cells hcells =>
      exact (get_setAll_of_notMem s.g (hcells ▸ isBlank_notMem_finderCells hside hxy _)).trans hlight
    | timing cells hcells =>
      exact (get_setAll_of_notMem s.g (hcells ▸ isBlank_notMem_timingCells hside hxy)).trans hlight
    | dark cells hcells =>
      have hdark := isBlank_ne_darkModule hside hxy hready.side hready.tier.1
      exact (get_setAll_of_notMem s.g (hcells ▸ by simpa using hdark)).trans hlight
    | align u hu hsep =>
      subst hu
      refine ((aligning_aligned hready.gridG hready.gridR).kept x y fun c hc hfree => ?_).trans hlight
      exact isBlank_notMem_footprint hready (hloc (by rw [hsep]; decide)) hxy hc hfree
    | place cells hcells hfixed =>
      refine (get_setAll_of_notMem s.g fun hmem => ?_).trans hlight
      obtain ⟨⟨c, b⟩, hzip, rfl⟩ := List.mem_map.mp hmem
      have hfree := free_of_mem_zigzag (hcells ▸ (List.of_mem_zip hzip).1)
      rw [hs.reserved (by rw [hfixed]; decide) x y hxy] at hfree
      cases hfree
    | sep | fmt | applyMask | setScore | tryAll => exact hlight
  · cases h
    case alloc => exact Grid.get_blank ..
    -- Every other step needs a grid.
    all_goals simp_all [MatrixStage.code]

/-- A trial grid is as light as G where a cell is reserved (R294). -/
theorem blankLight_trialGrid {s : State} (hs : BlankInv s) (hms : 8 ≤ s.ms.code) (k : MaskIdx) (x y : Nat)
    (hxy : isBlank s.tier s.size x y = true) : (trialGrid k s.size s.g s.r).get x y = false := by
  have hside := side_of_gridReady (gridReady_of_stage hs.matrix (by omega))
  obtain ⟨hx, hy⟩ := isBlank_lt hside hxy
  rw [get_trialGrid_of_reserved hx hy (hs.reserved (by omega) x y hxy)]
  exact hs.inG (by omega) x y hxy

theorem blankInv_of_matrixChange {s t : State} (h : MatrixChange s t) (hloc : LocatorsReserved s) (hs : BlankInv s) :
    BlankInv t where
  matrix := matrixInv_of_matrixChange h hs.matrix
  separators := separatorsReserved_of_matrixChange h hs
  reserved := blankReserved_of_matrixChange h hs
  inG := blankLight_of_matrixChange h hloc hs
  inT := by
    cases h with
    | alloc _ hms =>
      have htv : s.tv ≠ true := tv_of_lt_eight hs.matrix (by rw [hms]; decide)
      exact fun ht => absurd ht htv
    | applyMask k hms | tryAll k _ _ _ hms => exact fun _ => blankLight_trialGrid hs hms k
    | find | sep | align | timing | dark | fmt | place | setScore => exact hs.inT
  inO := by
    cases h with
    | tryAll _ k _ _ hms => exact fun _ => blankLight_trialGrid hs hms k
    | applyMask | setScore => exact hs.inO
    | alloc | find | sep | align | timing | dark | fmt | place => exact nofun

/-! ### The invariant under every change -/

theorem blankInv_of_ms_none {s : State} (h : MatrixInv s) (hms : s.ms = .none) : BlankInv s :=
  have hcode : s.ms.code = 0 := by rw [hms]; rfl
  { matrix := h
    separators := fun h3 => absurd h3 (by omega)
    reserved := fun h7 => absurd h7 (by omega)
    inG := fun h1 => absurd h1 (by omega)
    inT := fun htv => absurd htv (tv_of_lt_eight h (by omega))
    inO := fun h9 => absurd h9 (by rw [hms]; decide) }

theorem locatorsReserved_of_ms_none {s : State} (hms : s.ms = .none) : LocatorsReserved s :=
  fun h2 => absurd h2 (by rw [hms]; decide)

/-- The blank cells with what their step needs of the locators: the invariant that every change keeps. -/
theorem blankInv_of_change {s t : State} (h : Change s t) (hs : LocatorsReserved s ∧ BlankInv s) :
    LocatorsReserved t ∧ BlankInv t := by
  obtain ⟨hloc, hblank⟩ := hs
  have hmatrix : MatrixInv t := matrixInv_of_change h hblank.matrix
  cases h with
  | reset | newJob => exact ⟨locatorsReserved_of_ms_none rfl, blankInv_of_ms_none hmatrix rfl⟩
  | chooseTier v hds =>
    have hms := ms_none_of_text hblank.matrix hds
    exact ⟨locatorsReserved_of_ms_none hms, blankInv_of_ms_none hmatrix hms⟩
  | data h =>
    rw [h.frame.1] at hmatrix ⊢
    exact ⟨hloc, { hblank with matrix := hmatrix }⟩
  | matrix h =>
    exact ⟨locatorsReserved_of_matrixChange h hblank.matrix hloc, blankInv_of_matrixChange h hloc hblank⟩

/-- Settles O60: every step is a sequence of changes, and each keeps the blank cells light and reserved. -/
theorem blankAreasStayLight : Obligations.BlankAreasStayLight := by
  intro s t _ hlocators hblank hstep
  exact ((changes_step hstep).keep blankInv_of_change ⟨locatorsReserved_of_locatorInv hlocators, hblank⟩).2

end Sys2Proof.Machine

/-! ## The buffers under a change -/

namespace Sys2Proof.Machine

open Sys2Proof.Safety

theorem polyInv_of_memoryWf {s : State} (h : memoryWf s = true) : PolyInv s := by
  obtain ⟨-, -, -, -, -, -, -, hpa, hpb, hpq, hpr, -⟩ := (memoryWf_iff s).mp h
  exact ⟨hpa, hpb, hpq, hpr⟩

/-! ### The blocks -/

theorem code_of_eccStage {s : State} (h : s.eccStage = true) : 3 ≤ s.ds.code := by
  rcases eccStage_iff.mp h with h | h <;> rw [h] <;> decide

theorem blocksFit_of_change {s t : State} (h : Change s t) (hs : BlocksFit s) : BlocksFit t := by
  cases h with
  | reset | newJob | chooseTier => exact nofun
  | matrix h => cases h <;> exact hs
  | data h =>
    cases h with
    | accept | respond | recordFault | pushText | pushCodeword | writePoly => exact hs
    | buildBits | sealBits => exact nofun
    | splitBlocks => exact fun _ => ⟨rfl, length_splitBlocks ..⟩
    | eccBlock b hds =>
      have hfit := hs (code_of_eccStage hds)
      obtain ⟨n, d, heq, -⟩ := eccBlock_frame s b
      rw [heq]
      exact fun _ => hfit
    | interleave hds => exact fun _ => hs (by rw [hds]; decide)

/-! ### The depths (R11, R32) -/

theorem memoryWf_of_dataChange {s t : State} (h : DataChange s t) (hrom : s.rom = Rom.standard) (hfit : BlocksFit s)
    (hs : memoryWf s = true) : memoryWf t = true := by
  have hrow := row_fits hrom
  have htd := hrow.td
  cases h with
  | accept | respond | recordFault | sealBits => exact hs
  | pushText a _ hlen => exact memoryWf_pushText hs a hlen
  | buildBits bits _ hb =>
    have hlen := length_of_buildStream hb
    exact memoryWf_writeBits hs bits (by omega)
  | pushCodeword a _ hlen =>
    unfold State.blen State.bitCapacity at hlen
    exact memoryWf_writeBits hs _ (by rw [List.length_append, length_bits8]; omega)
  | writePoly p c hlen => exact memoryWf_writePoly hs p c (hlen hrom (polyInv_of_memoryWf hs))
  | splitBlocks =>
    refine memoryWf_writeBlocks hs _ _ hrow.blocks ?_ fun block hblock => ?_
    · simpa [splitBlocks] using hrow.blocks
    · have hlen : block.length ∈ (List.range s.row.blocks).map (blockLen s.row) := by
        rw [← length_splitBlocks]
        exact List.mem_map_of_mem hblock
      obtain ⟨b, -, hb⟩ := List.mem_map.mp hlen
      have hg1w := hrow.g1w
      have hg2w := hrow.g2w
      unfold blockLen at hb
      split at hb <;> omega
  | eccBlock b =>
    have hset := memoryWf_setRedundancy hs b (rsEcc s.rom (s.block b) s.row.ec) (by rw [length_rsEcc]; exact hrow.ec)
    obtain ⟨n, d, heq, -⟩ := eccBlock_frame s b
    rw [heq]
    exact hset
  | interleave hds => exact memoryWf_writeFinal hs _ (length_finalBits_le hrom hfit (by rw [hds]; decide))

/-! ### The grids -/

/-- A change of the matrix path writes nothing of the data path. -/
theorem MatrixChange.frame {s t : State} (h : MatrixChange s t) : t = s.withMatrixOf t := by
  cases h <;> rfl

theorem ne_none_of_placed {m : MatrixStage} (h : 8 ≤ m.code) : m ≠ .none := MatrixStage.code_pos.mp (by omega)

/-- After a change of the matrix path there is a grid. -/
theorem MatrixChange.ms_ne_none {s t : State} (h : MatrixChange s t) (hs : MatrixInv s) : t.ms ≠ .none := by
  cases h with
  | applyMask k hms => exact ne_none_of_placed hms
  | setScore htv => exact ne_none_of_placed (hs.trial htv)
  | alloc | find | sep | align | timing | dark | fmt | place | tryAll => exact nofun

/-- The form of the buffers is that of the data path and, where there is a grid, what `MatrixInv` says of the matrix path. -/
theorem memoryWf_withMatrixOf {s t : State} (hs : memoryWf s = true) (ht : MatrixInv t) (hms : t.ms ≠ .none) :
    memoryWf (s.withMatrixOf t) = true := by
  obtain ⟨htext, hside⟩ := ht.allocated hms
  have htier := ht.tier htext
  rw [memoryWf_iff] at hs ⊢
  obtain ⟨htxt, hbits, hfinal, hd, hdlen, he, helen, hpa, hpb, hpq, hpr, -⟩ := hs
  exact ⟨htxt, hbits, hfinal, hd, hdlen, he, helen, hpa, hpb, hpq, hpr, show t.size ≤ 177 by omega, ht.gridG hms,
    ht.gridR hms, ht.gridT, ht.gridO⟩

theorem memoryWf_of_change {s t : State} (h : Change s t) (hs : MatrixInv s) (hfit : BlocksFit s)
    (hm : memoryWf s = true) : memoryWf t = true := by
  have ht : MatrixInv t := matrixInv_of_change h hs
  cases h with
  | reset | newJob => exact memoryWf_reset
  | chooseTier => exact hm
  | data h => exact memoryWf_of_dataChange h hs.rom hfit hm
  | matrix h => rw [h.frame]; exact memoryWf_withMatrixOf hm ht (h.ms_ne_none hs)

/-- Settles O57: every change keeps the form of the buffers, with the shape of the blocks and the matrix path it rests on. -/
theorem buffersKeepTheirForm : Obligations.BuffersKeepTheirForm := by
  intro s t hdata hmatrix _ hmem hstep
  have keep {u v : State} (h : Change u v) (hu : MatrixInv u ∧ BlocksFit u ∧ memoryWf u = true) :
      MatrixInv v ∧ BlocksFit v ∧ memoryWf v = true := by
    obtain ⟨hmatrix, hfit, hmem⟩ := hu
    exact ⟨matrixInv_of_change h hmatrix, blocksFit_of_change h hfit, memoryWf_of_change h hmatrix hfit hmem⟩
  obtain ⟨-, -, hwf⟩ := (changes_step hstep).keep keep ⟨hmatrix, blocksFit_of_dataInv hdata, hmem⟩
  exact ⟨polyInv_of_memoryWf hwf, hwf⟩

end Sys2Proof.Machine

/-! ## The data path under a change -/

namespace Sys2Proof.Machine

open Sys2Proof.Safety

/-! ### The printed rows, and lengths -/

/-- Every tier of the table has a block (R38). -/
theorem standard_row_blocks_pos {v : Nat} (h1 : 1 ≤ v) (h40 : v ≤ 40) : 0 < (Rom.standard.row v).blocks := by
  have all : ∀ v, v < 41 → 1 ≤ v → 0 < (Rom.standard.row v).blocks := by decide
  exact all v (by omega) h1

theorem blockLen_le_max (row : TierRow) (b : Nat) : blockLen row b ≤ max row.g1w row.g2w := by
  unfold blockLen
  split
  · exact Nat.le_max_left ..
  · exact Nat.le_max_right ..

/-- R227: where the blocks have their lengths, the interleaving takes every codeword of the tier once. -/
theorem length_interleaved {s : State} (hrom : s.rom = Rom.standard) (h : BlocksFit s) (hds : 3 ≤ s.ds.code) :
    (interleaved s).length = s.row.tc := by
  have hnblk := (h hds).1
  have hdata : sumBelow s.nblk (fun b => min (max s.row.g1w s.row.g2w) (s.dlen b)) = s.row.td := by
    have hlen (b : Nat) (hb : b < s.row.blocks) : min (max s.row.g1w s.row.g2w) (s.dlen b) = blockLen s.row b := by
      rw [h.dlen_eq hds hb, Nat.min_eq_right (blockLen_le_max ..)]
    rw [hnblk, ← (row_fits hrom).consistent, ← sum_blockLen]
    exact Nat.le_antisymm (sumBelow_le fun b hb => Nat.le_of_eq (hlen b hb))
      (sumBelow_le fun b hb => Nat.le_of_eq (hlen b hb).symm)
  have hecc : ((List.range s.row.ec).flatMap fun j => (List.range s.nblk).map fun b => s.readRedundancy b j).length =
      s.row.ec * s.nblk := by
    rw [length_flatMap_range]
    exact sumBelow_const fun j _ => by rw [List.length_map, List.length_range]
  unfold interleaved
  rw [List.length_append, length_interleavedData, hdata, hecc, hnblk, TierRow.tc]

theorem length_finalBits {s : State} (hrom : s.rom = Rom.standard) (h : BlocksFit s) (hds : 3 ≤ s.ds.code) :
    (finalBits s).length = 8 * s.row.tc + s.row.rem := by
  unfold finalBits
  rw [List.length_append, length_flatMap_bits8, length_zeroBits, length_interleaved hrom h hds]

/-! ### The marks of E -/

/-- Marking one more block counts it if it was not marked (R224). -/
theorem countP_isSome_set {α : Type} (e : List (Option α)) {b : Nat} (hb : b < e.length) (v : α) :
    (e.set b (some v)).countP (·.isSome) = e.countP (·.isSome) + if (e.getD b none).isSome then 0 else 1 := by
  induction e generalizing b with
  | nil => cases hb
  | cons o e ih => cases b with
    | zero => cases o <;> simp
    | succ b =>
      have := ih (Nat.lt_of_succ_lt_succ hb)
      simp only [List.set_cons_succ, List.countP_cons, List.getD_cons_succ]
      omega

/-- Where every block is marked, each is (R225). -/
theorem ev_of_all_marked {s : State} (h : s.e.countP (·.isSome) = s.e.length) {b : Nat} (hb : b < s.e.length) :
    s.ev b = true := by
  unfold State.ev State.redundancy
  rw [List.getD_eq_getElem?_getD, List.getElem?_eq_getElem hb, Option.getD_some]
  exact List.countP_eq_length.mp h _ (List.getElem_mem hb)

/-- R224: the count of marks grows where the block was not marked, and the stage closes once it is `NBLK`. -/
theorem eccBlock_count (s : State) (b : Nat) : ∃ n d,
    s.eccBlock b = { s.setRedundancy b (rsEcc s.rom (s.block b) s.row.ec) with evcnt := n, ds := d } ∧
      n = s.evcnt + (if s.ev b then 0 else 1) ∧ (n = s.nblk ∧ d = .eccDone ∨ n ≠ s.nblk ∧ d = s.ds) := by
  unfold State.eccBlock
  simp only
  split <;> split
  next hcount => exact ⟨s.evcnt, .eccDone, rfl, rfl, .inl ⟨hcount, rfl⟩⟩
  next hcount => exact ⟨s.evcnt, s.ds, rfl, rfl, .inr ⟨hcount, rfl⟩⟩
  next hcount => exact ⟨s.evcnt + 1, .eccDone, rfl, rfl, .inl ⟨hcount, rfl⟩⟩
  next hcount => exact ⟨s.evcnt + 1, s.ds, rfl, rfl, .inr ⟨hcount, rfl⟩⟩

/-! ### The data path agrees with its stage (R23, R26, R32, R41) -/

/-- What every fresh job starts from, whatever the channels and the matrix path hold. -/
theorem dataInv_reset : DataInv State.reset := by
  constructor
  case rom => rfl
  case eccLens => exact nofun
  all_goals decide

/-- Before a tier is chosen nothing depends on it. -/
theorem dataInv_chooseTier {s : State} {v : Nat} (h : DataInv s) (hds : s.ds = .text) (hv : 1 ≤ v ∧ v ≤ 40) :
    DataInv { s with tier := v, ds := .tiered } := by
  have hcode : s.ds.code < 3 := by rw [hds]; decide
  obtain ⟨hnblk, hd, he⟩ := h.noBlocks hcode
  have hbits := h.bitsText hds
  exact { h with
    tierZero := iff_of_false nofun (show v ≠ 0 by omega)
    tierMax := hv.2
    bitsText := nofun
    bitsTiered := fun _ => by
      show s.bits.length ≤ _ ∧ s.bits.length % 8 = 0
      rw [hbits]; exact ⟨Nat.zero_le _, rfl⟩
    bitsPadded := nofun
    noBlocks := fun _ => ⟨hnblk, hd, he⟩
    blockCount := nofun
    blockLens := nofun
    eccLens := fun o ho => absurd (show o ∈ s.e from ho) (by rw [he]; exact List.not_mem_nil)
    splitOpen := nofun
    eccClosed := nofun
    finalNone := fun _ => h.finalNone (by rw [hds]; decide)
    finalLen := nofun }

/-- BITS of a tiered state: any stream of whole codewords within the capacity (R145, R147). -/
theorem dataInv_writeBits {s : State} (h : DataInv s) (hds : s.ds = .tiered) {bits : List Bool}
    (hlen : bits.length ≤ s.bitCapacity) (hmod : bits.length % 8 = 0) : DataInv { s with bits := bits } :=
  { h with
    bitsText := fun htext => absurd (hds.symm.trans htext) (by decide)
    bitsTiered := fun _ => ⟨hlen, hmod⟩
    bitsPadded := fun h2 => absurd (show 2 ≤ s.ds.code from h2) (by rw [hds]; decide) }

/-- A full stream is sealed (R146, R148). -/
theorem dataInv_seal {s : State} (h : DataInv s) (hds : s.ds = .tiered) (hlen : s.bits.length = s.bitCapacity) :
    DataInv { s with ds := .padded } :=
  have htext : s.ds ≠ .text := by rw [hds]; decide
  { h with
    tierZero := iff_of_false nofun (htext ∘ h.tierZero.mpr)
    bitsText := nofun
    bitsTiered := nofun
    bitsPadded := fun _ => hlen
    noBlocks := fun _ => h.noBlocks (by rw [hds]; decide)
    blockCount := nofun
    blockLens := nofun
    splitOpen := nofun
    eccClosed := nofun
    finalNone := fun _ => h.finalNone (by rw [hds]; decide)
    finalLen := nofun }

theorem dataInv_splitBlocks {s : State} (h : DataInv s) (hds : s.ds = .padded) :
    DataInv { s with
      nblk := s.row.blocks
      d := splitBlocks s.row (dataCodewords s.bits s.row.td)
      e := List.replicate s.row.blocks none
      evcnt := 0
      ds := .split } :=
  have htier : s.tier ≠ 0 := fun h0 => absurd (h.tierZero.mpr h0) (by rw [hds]; decide)
  have hblocks : 0 < s.row.blocks := by
    unfold State.row
    rw [h.rom]
    exact standard_row_blocks_pos (Nat.pos_of_ne_zero htier) h.tierMax
  { h with
    tierZero := iff_of_false nofun htier
    bitsText := nofun
    bitsTiered := nofun
    bitsPadded := fun _ => h.bitsPadded (by rw [hds]; decide)
    noBlocks := nofun
    blockCount := fun _ => ⟨rfl, List.length_replicate⟩
    blockLens := fun _ => length_splitBlocks ..
    eccLens := fun o ho => by rw [List.eq_of_mem_replicate ho]; exact nofun
    evcnt := by simp [List.countP_replicate]
    splitOpen := fun _ => hblocks
    eccClosed := nofun
    finalNone := fun _ => h.finalNone (by rw [hds]; decide)
    finalLen := nofun }

theorem DataStage.bounds_of_ecc {m : DataStage} (h : m = .split ∨ m = .eccDone) :
    m ≠ .text ∧ m ≠ .tiered ∧ m ≠ .final ∧ 3 ≤ m.code := by
  rcases h with rfl | rfl <;> decide

/-- R224: `EVCNT` counts the marks after RS.ECC too, and the stage is closed exactly when all blocks are marked. -/
theorem eccBlock_marks {s : State} (h : DataInv s) {b : Nat} (hds : s.eccStage = true) (hb : b < s.nblk) : ∃ n d,
    s.eccBlock b = { s.setRedundancy b (rsEcc s.rom (s.block b) s.row.ec) with evcnt := n, ds := d } ∧
      n = (s.e.set b (some (rsEcc s.rom (s.block b) s.row.ec))).countP (·.isSome) ∧
      (d = .split ∧ n < s.nblk ∨ d = .eccDone ∧ n = s.nblk) := by
  have hstage := eccStage_iff.mp hds
  have hlen : s.e.length = s.nblk := by
    obtain ⟨hnblk, helen⟩ := h.blockCount (code_of_eccStage hds)
    exact helen.trans hnblk.symm
  obtain ⟨n, d, heq, hn, hd⟩ := eccBlock_count s b
  have hcount : n = (s.e.set b (some (rsEcc s.rom (s.block b) s.row.ec))).countP (·.isSome) := by
    rw [countP_isSome_set s.e (hlen ▸ hb), hn, h.evcnt]
    rfl
  have hmax : n ≤ s.nblk := by
    rw [hcount, ← hlen, ← List.length_set]
    exact List.countP_le_length
  refine ⟨n, d, heq, hcount, ?_⟩
  obtain ⟨hall, hdone⟩ | ⟨hne, hsame⟩ := hd
  · exact .inr ⟨hdone, hall⟩
  · refine .inl ⟨hsame.trans (hstage.resolve_right fun hclosed => hne ?_), Nat.lt_of_le_of_ne hmax hne⟩
    -- In a closed stage the block is marked already.
    have hall := h.eccClosed (by rw [hclosed]; decide)
    have hev : s.ev b = true := ev_of_all_marked (by rw [← h.evcnt, hall, hlen]) (hlen ▸ hb)
    rw [hn, if_pos hev]
    exact hall

theorem dataInv_eccBlock {s : State} (h : DataInv s) {b : Nat} (hds : s.eccStage = true) (hb : b < s.nblk) :
    DataInv (s.eccBlock b) := by
  obtain ⟨htext, -, hfinal, h3⟩ := DataStage.bounds_of_ecc (eccStage_iff.mp hds)
  obtain ⟨hnblk, helen⟩ := h.blockCount h3
  obtain ⟨n, d, heq, hcount, hd⟩ := eccBlock_marks h hds hb
  obtain ⟨htext', htiered', hfinal', h3'⟩ := DataStage.bounds_of_ecc (hd.imp And.left And.left)
  rw [heq]
  exact { h with
    tierZero := iff_of_false htext' (htext ∘ h.tierZero.mpr)
    bitsText := fun e => absurd e htext'
    bitsTiered := fun e => absurd e htiered'
    bitsPadded := fun _ => h.bitsPadded (by omega)
    noBlocks := fun hlt => absurd h3' (Nat.not_le.mpr hlt)
    blockCount := fun _ => ⟨hnblk, List.length_set.trans helen⟩
    blockLens := fun _ => h.blockLens h3
    eccLens := fun o ho ws hws => by
      obtain hmem | rfl := List.mem_or_eq_of_mem_set ho
      · exact h.eccLens o hmem ws hws
      · rw [← Option.some.inj hws]; exact length_rsEcc ..
    evcnt := hcount
    splitOpen := fun hsplit => by
      obtain ⟨-, hlt⟩ | ⟨hdone, -⟩ := hd
      · exact hlt
      · exact absurd (hsplit.symm.trans hdone) (by decide)
    eccClosed := fun h4 => by
      obtain ⟨hsplit, -⟩ | ⟨-, hall⟩ := hd
      · exact absurd (show 4 ≤ d.code from h4) (by rw [hsplit]; decide)
      · exact hall
    finalNone := fun _ => h.finalNone hfinal
    finalLen := fun e => absurd e hfinal' }

theorem dataInv_interleave {s : State} (h : DataInv s) (hds : s.ds = .eccDone) :
    DataInv { s with final := finalBits s, ds := .final } :=
  { h with
    tierZero := iff_of_false nofun fun h0 => absurd (h.tierZero.mpr h0) (by rw [hds]; decide)
    bitsText := nofun
    bitsTiered := nofun
    bitsPadded := fun _ => h.bitsPadded (by rw [hds]; decide)
    noBlocks := nofun
    blockCount := fun _ => h.blockCount (by rw [hds]; decide)
    blockLens := fun _ => h.blockLens (by rw [hds]; decide)
    splitOpen := nofun
    eccClosed := fun _ => h.eccClosed (by rw [hds]; decide)
    finalNone := fun hne => absurd rfl hne
    finalLen := fun _ => length_finalBits h.rom (blocksFit_of_dataInv h) (by rw [hds]; decide) }

theorem dataInv_of_dataChange {s t : State} (h : DataChange s t) (hs : DataInv s) : DataInv t := by
  cases h with
  | accept | respond | recordFault | writePoly => exact { hs with }
  | pushText a hds hlen =>
    exact { hs with textDepth := by rw [List.length_append]; exact hlen }
  | buildBits bits hds hb =>
    have hlen : bits.length = s.bitCapacity := length_of_buildStream hb
    have hmod : bits.length % 8 = 0 := by rw [length_of_buildStream hb]; exact Nat.mul_mod_right ..
    exact dataInv_seal (dataInv_writeBits hs hds (Nat.le_of_eq hlen) hmod) hds hlen
  | pushCodeword a hds hlen =>
    obtain ⟨-, hmod⟩ := hs.bitsTiered hds
    refine dataInv_writeBits hs hds ?_ ?_
    · rw [List.length_append, length_bits8]; exact hlen
    · rw [List.length_append, length_bits8]; omega
  | sealBits hds hlen => exact dataInv_seal hs hds hlen
  | splitBlocks hds => exact dataInv_splitBlocks hs hds
  | eccBlock b hds hb => exact dataInv_eccBlock hs hds hb
  | interleave hds => exact dataInv_interleave hs hds

theorem dataInv_of_change {s t : State} (h : Change s t) (hs : DataInv s) : DataInv t := by
  cases h with
  | reset rest => exact { dataInv_reset with rom := rfl }
  | newJob => exact { dataInv_reset with rom := hs.rom }
  | chooseTier v hds hv => exact dataInv_chooseTier hs hds (hv hs.rom)
  | data h => exact dataInv_of_dataChange h hs
  | matrix h => cases h <;> exact { hs with }

/-- Settles O55: every step is a sequence of changes, and each keeps the data path. -/
theorem dataPathInvariant : Obligations.DataPathInvariant :=
  fun _ _ hdata hstep => (changes_step hstep).keep dataInv_of_change hdata

/-- Settles O56: every step is a sequence of changes, and each keeps the matrix path. -/
theorem matrixPathInvariant : Obligations.MatrixPathInvariant :=
  fun _ _ _ hmatrix hstep => (changes_step hstep).keep matrixInv_of_change hmatrix

end Sys2Proof.Machine

/-! ## What a command leaves alone -/

namespace Sys2Proof.Machine

open Sys2Proof.Safety

/-! ### Frames -/

/-- The sequencers do not go back, and of the ROM, the channels, the command counter and the spaces only the spaces of
`w` are written.  Where `t` is `s` with some fields changed, the defaults read each part off the record. -/
structure Frame (w : List Space) (s t : State) : Prop where
  rom : t.rom = s.rom := by rfl
  cc : t.cc = s.cc := by rfl
  cmd : t.cmd = s.cmd := by rfl
  input : t.input = s.input := by rfl
  ds : s.ds.code ≤ t.ds.code := by exact Nat.le_refl _
  ms : s.ms.code ≤ t.ms.code := by exact Nat.le_refl _
  spaces : ∀ sp ∉ w, sameOn s t sp := by intro sp hsp; cases sp <;> simp at hsp <;> rfl

theorem sameOn_refl (s : State) (sp : Space) : sameOn s s sp := by cases sp <;> rfl

theorem sameOn_trans {s t u : State} {sp : Space} (h : sameOn s t sp) (hnext : sameOn t u sp) : sameOn s u sp := by
  cases sp <;> exact Eq.trans hnext h

theorem Frame.refl (w : List Space) (s : State) : Frame w s s :=
  { spaces := fun sp _ => sameOn_refl s sp }

theorem Frame.trans {w : List Space} {s t u : State} (h : Frame w s t) (hnext : Frame w t u) : Frame w s u :=
  ⟨hnext.rom.trans h.rom, hnext.cc.trans h.cc, hnext.cmd.trans h.cmd, hnext.input.trans h.input,
    Nat.le_trans h.ds hnext.ds, Nat.le_trans h.ms hnext.ms,
    fun sp hsp => sameOn_trans (h.spaces sp hsp) (hnext.spaces sp hsp)⟩

theorem Frame.mono {w w' : List Space} {s t : State} (h : Frame w s t) (hsub : w ⊆ w') : Frame w' s t :=
  { h with spaces := fun sp hsp => h.spaces sp fun hmem => hsp (hsub hmem) }

/-- One constituent after another (R361): what all of them may write is written at most. -/
theorem Frame.andThen {w w' : List Space} {s : State} {r : Result} {k : State → Result} (h : Frame w s r.state)
    (hk : ∀ u, Frame w' u (k u).state) (hsub : w' ⊆ w := by decide) : Frame w s (r.andThen k).state :=
  andThen_keeps h fun u hu => hu.trans ((hk u).mono hsub)

theorem Frame.respond {w : List Space} {s : State} {r : Result} {f : State → Nat} (h : Frame w s r.state) :
    Frame w s (r.respond f).state := by rwa [respond_state]

theorem frame_respondWith (s : State) (a : Response) : Frame [] s (s.respondWith a) := {}

theorem frame_recordFault (s : State) (c : FaultCode) (n : Nat) : Frame [] s (s.recordFault c n) := {}

theorem frame_settle {w : List Space} {s : State} {r : Result} (h : Frame w s r.state) : Frame w s r.settle :=
  settle_keeps r h (fun u a hu => hu.trans ((frame_respondWith u a).mono (List.nil_subset _)))
    fun u c n hu => hu.trans ((frame_recordFault u c n).mono (List.nil_subset _))

/-- Past a check that faults on the state the command started in (R353). -/
theorem Frame.guard {w : List Space} {s : State} {c : Prop} [Decidable c] {code : FaultCode} {n : Nat} {r : Result}
    (h : ¬ c → Frame w s r.state) : Frame w s (if c then .raised s code n else r).state := by
  split
  · exact .refl ..
  next hc => exact h hc

/-! ### What the writes leave alone -/

section Writes

variable (s : State)

theorem frame_writeText (x : List Byte) : Frame [.text] s { s with text := x } := {}

theorem frame_chooseTier {v : Nat} {d : DataStage} (hd : s.ds.code ≤ d.code) :
    Frame [] s { s with tier := v, ds := d } :=
  { ds := hd }

theorem frame_writeBits {x : List Bool} {d : DataStage} (hd : s.ds.code ≤ d.code) :
    Frame [.bits] s { s with bits := x, ds := d } :=
  { ds := hd }

theorem frame_writePoly (p : PolyReg) (c : Poly) : Frame [.poly] s (s.writePoly p c) := {}

theorem frame_writeBlocks {n k : Nat} {blocks : List (List Byte)} {e : List (Option (List Byte))} {d : DataStage}
    (hd : s.ds.code ≤ d.code) : Frame [.d, .e] s { s with nblk := n, d := blocks, e := e, evcnt := k, ds := d } :=
  { ds := hd }

theorem frame_writeRedundancy {n : Nat} {e : List (Option (List Byte))} {d : DataStage} (hd : s.ds.code ≤ d.code) :
    Frame [.e] s { s with e := e, evcnt := n, ds := d } :=
  { ds := hd }

theorem frame_writeFinal {x : List Bool} {d : DataStage} (hd : s.ds.code ≤ d.code) :
    Frame [.final] s { s with final := x, ds := d } :=
  { ds := hd }

theorem frame_writeGrids {g r : Grid} {n k : Nat} {m : MatrixStage} (hm : s.ms.code ≤ m.code) :
    Frame [.g, .r] s { s with g := g, r := r, size := n, nstamp := k, ms := m } :=
  { ms := hm }

theorem frame_stamp {cells : List (Cell × Bool)} {m : MatrixStage} (hm : s.ms.code ≤ m.code) :
    Frame [.g, .r] s { s.stamp cells with ms := m } :=
  frame_writeGrids s hm

theorem frame_writeG {g : Grid} {m : MatrixStage} (hm : s.ms.code ≤ m.code) : Frame [.g] s { s with g := g, ms := m } :=
  { ms := hm }

theorem frame_reserve {cells : List Cell} {m : MatrixStage} (hm : s.ms.code ≤ m.code) :
    Frame [.r] s { s.reserve cells with ms := m } :=
  { ms := hm }

theorem frame_applyMask (k : MaskIdx) : Frame [.t] s (s.applyMask k) := {}

theorem frame_setScore (k : MaskIdx) (v : Nat) : Frame [.score] s (s.setScore k v) := {}

theorem frame_keepTrial {t o : Grid} {k kept : MaskIdx} {v : Bool} {score : Vector (Option Word) 8} {best : Word}
    {m : MatrixStage} (hm : s.ms.code ≤ m.code) : Frame [.t, .o, .score] s
      { s with t := t, tmask := k, tv := v, o := o, score := score, best := kept, bestScore := best, ms := m } :=
  { ms := hm }

end Writes

/-! ### Commands without constituents -/

/-- A sequencer that the check of a command finds at a stage goes no further back than that stage. -/
theorem DataStage.le_of_check {d e : DataStage} {n : Nat} (h : ¬ d ≠ e) (hle : e.code ≤ n := by decide) :
    d.code ≤ n :=
  Classical.not_not.mp h ▸ hle

theorem MatrixStage.le_of_check {m k : MatrixStage} {n : Nat} (h : ¬ m ≠ k) (hle : k.code ≤ n := by decide) :
    m.code ≤ n :=
  Classical.not_not.mp h ▸ hle

theorem frame_opRsEccBlock (b : Nat) (s : State) : Frame [.e] s (opRsEccBlock b s).state := by
  refine .guard fun hds => .guard fun _ => ?_
  obtain ⟨n, d, heq, hd⟩ := eccBlock_frame s b
  rw [state_done, heq]
  refine frame_writeRedundancy s ?_
  rcases hd with rfl | rfl
  · exact Nat.le_refl _
  · rcases eccStage_iff.mp (Classical.not_not.mp hds) with h | h <;> exact DataStage.le_of_check (not_not_intro h)

theorem frame_opMxAlign (s : State) : Frame [.g, .r] s (opMxAlign s).state := by
  refine .guard fun hms => ?_
  show Frame _ s { s.aligned with ms := .align }
  rw [aligned_frame s]
  exact frame_writeGrids s (by rw [Classical.not_not.mp hms]; decide)

theorem frame_opOf_plain {i : Instr} (hmacro : isMacro i = false) (hjob : i ≠ .jobNew) (s : State) :
    Frame (writes i) s (opOf i s).state := by
  by_cases hread : isRead i = true
  · rw [opOf_state_of_isRead hread]
    exact .refl ..
  cases i with
  | nop => exact .refl ..
  | jobNew => exact absurd rfl hjob
  | txtPush a => exact .guard fun _ => .guard fun _ => frame_writeText s _
  | vsel | vset a => exact .guard fun hds => .guard fun _ => frame_chooseTier s (DataStage.le_of_check hds)
  | bsb =>
    refine .guard fun hds => ?_
    split
    · exact .refl ..
    · exact frame_writeBits s (DataStage.le_of_check (not_not_intro (Classical.not_not.mp hds).1))
  | dcwPush a => exact .guard fun _ => .guard fun _ => frame_writeBits s (Nat.le_refl _)
  | dcwSeal => exact .guard fun hds => .guard fun _ => frame_chooseTier s (DataStage.le_of_check hds)
  | pClr a =>
    rw [opOf, opPClr]
    split
    · exact .refl ..
    · exact frame_writePoly ..
  | pPush a b =>
    rw [opOf, opPPush]
    split
    · exact .refl ..
    · exact .guard fun _ => frame_writePoly ..
  | pMov a b =>
    rw [opOf, opPMov]
    split
    · exact .refl ..
    split
    · exact .refl ..
    · exact frame_writePoly ..
  | pMul => exact .guard fun _ => frame_writePoly ..
  | pDiv => exact .guard fun _ => .guard fun _ => (frame_writePoly ..).trans (frame_writePoly ..)
  | pGen a | pSyn a => exact frame_writePoly ..
  | rsSplit => exact .guard fun hds => .guard fun _ => frame_writeBlocks s (DataStage.le_of_check hds)
  | rsEcc a => exact frame_opRsEccBlock a.toNat s
  | rsSyn a =>
    refine .guard fun _ => .guard fun _ => ?_
    split
    · exact .refl ..
    · exact frame_writePoly ..
  | rsIlv => exact .guard fun hds => frame_writeFinal s (DataStage.le_of_check hds)
  | mxAlloc =>
    exact .guard fun h => frame_writeGrids s (MatrixStage.le_of_check (not_not_intro (Classical.not_not.mp h).2))
  | mxAlign => exact frame_opMxAlign s
  | mxFind | mxTiming | mxDark => exact .guard fun hms => frame_stamp s (MatrixStage.le_of_check hms)
  | mxSep | mxFmt => exact .guard fun hms => frame_reserve s (MatrixStage.le_of_check hms)
  | mxPlace =>
    exact .guard fun h => .guard fun _ =>
      frame_writeG s (MatrixStage.le_of_check (not_not_intro (Classical.not_not.mp h).1))
  | mkApply a =>
    refine .guard fun _ => ?_
    split
    · exact .refl ..
    · exact frame_applyMask ..
  | mkScore => exact .guard fun _ => frame_setScore ..
  | encodeJob | rsEccAll | mxFixed | mxBuild | mkTryall => cases hmacro
  | _ => exact absurd rfl hread

/-! ### Commands with constituents (R361) -/

theorem frame_opRsEccAll (s : State) : Frame [.e] s (opRsEccAll s).state := by
  have chain (blocks : List Nat) (r : Result) (hr : Frame [.e] s r.state) :
      Frame [.e] s (blocks.foldl (fun r b => r.andThen (opRsEccBlock b)) r).state := by
    induction blocks generalizing r with
    | nil => exact hr
    | cons b blocks ih => exact ih _ (hr.andThen (frame_opRsEccBlock b))
  exact .guard fun _ => (chain _ (.done s 0) (.refl ..)).respond

theorem frame_opMxFixed (s : State) : Frame [.g, .r] s (opMxFixed s).state :=
  have step {i : Instr} (hmacro : isMacro i = false) (hjob : i ≠ .jobNew) := frame_opOf_plain hmacro hjob
  .guard fun _ => ((((((step (i := .mxAlloc) rfl nofun s).andThen (step (i := .mxFind) rfl nofun)).andThen
    (step (i := .mxSep) rfl nofun)).andThen frame_opMxAlign).andThen (step (i := .mxTiming) rfl nofun)).andThen
    (step (i := .mxDark) rfl nofun)).andThen (step (i := .mxFmt) rfl nofun) |>.respond

theorem frame_opMxBuild (s : State) : Frame [.g, .r] s (opMxBuild s).state :=
  .guard fun _ => ((frame_opMxFixed s).andThen (frame_opOf_plain (i := .mxPlace) rfl nofun)).respond

theorem MatrixStage.code_le_nine (m : MatrixStage) : m.code ≤ 9 := by cases m <;> decide

theorem frame_opMkTryall (s : State) : Frame [.t, .o, .score] s (opMkTryall s).state := by
  refine .guard fun _ => ?_
  obtain ⟨trial, score, kept, hacc, -⟩ := tried_all s
  simp only [hacc]
  exact frame_keepTrial s (MatrixStage.code_le_nine _)

theorem frame_opEncodeJob (s : State) :
    Frame [.bits, .d, .e, .final, .g, .r, .t, .o, .score] s (opEncodeJob s).state :=
  .guard fun _ => (((((((frame_opOf_plain (i := .vsel) rfl nofun s).mono (List.nil_subset _)).andThen
    (frame_opOf_plain (i := .bsb) rfl nofun)).andThen (frame_opOf_plain (i := .rsSplit) rfl nofun)).andThen
    frame_opRsEccAll).andThen (frame_opOf_plain (i := .rsIlv) rfl nofun)).andThen frame_opMxBuild).andThen
    frame_opMkTryall

/-! ### Every command -/

/-- Every command but JOB.NEW writes its spaces only and takes no sequencer back. -/
theorem frame_opOf {i : Instr} (hjob : i ≠ .jobNew) (s : State) : Frame (writes i) s (opOf i s).state := by
  by_cases hmacro : isMacro i = false
  · exact frame_opOf_plain hmacro hjob s
  cases i with
  | encodeJob => exact frame_opEncodeJob s
  | rsEccAll => exact frame_opRsEccAll s
  | mxFixed => exact frame_opMxFixed s
  | mxBuild => exact frame_opMxBuild s
  | mkTryall => exact frame_opMkTryall s
  | _ => exact absurd rfl hmacro

theorem frame_exec {i : Instr} {s t : State} (hjob : i ≠ .jobNew) (h : exec i s = .next t) : Frame (writes i) s t := by
  have hrun := frame_settle (frame_opOf hjob s)
  rw [exec_eq_run] at h
  split at h
  · exact Host.Outcome.next.inj h ▸ hrun
  · unfold runLive at h
    split at h
    · exact Host.Outcome.next.inj h ▸ (frame_respondWith ..).mono (List.nil_subset _)
    · exact Host.Outcome.next.inj h ▸ hrun

theorem exec_jobNew (s : State) : exec .jobNew s = .next (s.newJob.complete 0) := rfl

/-- Settles O16: the sequencers are part of the frame of every command but JOB.NEW. -/
theorem stagesNeverDecrease : Obligations.StagesNeverDecrease :=
  fun _ _ _ hjob hexec => ⟨(frame_exec hjob hexec).ds, (frame_exec hjob hexec).ms⟩

/-- Settles O18: JOB.NEW may write every space, and the frame of the others says which they write. -/
theorem writesOnlyItsSpaces : Obligations.WritesOnlyItsSpaces := by
  intro i s t hexec
  by_cases hjob : i = .jobNew
  · subst hjob
    cases Host.Outcome.next.inj hexec
    refine ⟨fun sp hsp => ?_, rfl⟩
    have hall : mayWrite .jobNew sp = true := by cases sp <;> rfl
    exact absurd (hall.symm.trans hsp) nofun
  · have hframe := frame_exec hjob hexec
    refine ⟨fun sp hsp => hframe.spaces sp fun hmem => ?_, hframe.rom⟩
    exact absurd ((List.contains_iff_mem.mpr hmem).symm.trans hsp) nofun

end Sys2Proof.Machine

/-! ## The answer to a word -/

namespace Sys2Proof.Machine

open Sys2Proof.Safety

/-- There is a response, and where it says that the command failed its value is a fault code (R43, R350). -/
def Answered (t : State) : Prop :=
  ∃ r, t.resp = some r ∧ (r.ok = false → ∃ c : FaultCode, r.val = zext32 c.code)

theorem answered_complete (s : State) (v : Nat) : Answered (s.complete v) := ⟨_, rfl, nofun⟩

theorem answered_refuse (s : State) (c : FaultCode) : Answered (s.refuse c) := ⟨_, rfl, fun _ => ⟨c, rfl⟩⟩

theorem answered_settle (r : Result) : Answered r.settle := by
  cases r with
  | done s v => exact answered_complete s v
  | raised s c n => exact answered_refuse _ c

theorem answered_illegalWord (s : State) (w : Word) (e : DecodeError) : Answered (s.illegalWord w e) := by
  unfold State.illegalWord
  split
  · exact answered_refuse ..
  · exact answered_refuse ..

theorem exec_answered (i : Instr) (s : State) : ∃ t, exec i s = .next t ∧ Answered t := by
  rw [exec_eq_run]
  split
  · exact ⟨_, rfl, answered_settle _⟩
  · unfold runLive
    split
    · exact ⟨_, rfl, answered_refuse ..⟩
    · exact ⟨_, rfl, answered_settle _⟩

/-- No command changes the counter or the channels the word came in by (R25, R42). -/
theorem exec_keeps_channels {i : Instr} {s t : State} (h : exec i s = .next t) :
    t.cc = s.cc ∧ t.cmd = s.cmd ∧ t.input = s.input := by
  by_cases hjob : i = .jobNew
  · subst hjob
    cases Host.Outcome.next.inj h
    exact ⟨rfl, rfl, rfl⟩
  · have hframe := frame_exec hjob h
    exact ⟨hframe.cc, hframe.cmd, hframe.input⟩

theorem frame_illegalWord (s : State) (w : Word) (e : DecodeError) : Frame [] s (s.illegalWord w e) := by
  unfold State.illegalWord
  split
  · exact frame_respondWith ..
  · exact frame_settle (r := .raised s _ _) (.refl ..)

/-- What the step does with a word, legal or not: it is counted, latched, taken from the input and answered. -/
theorem step_word {s : State} {w : Word} {rest : List Input} (h : s.input = .command w :: rest) :
    ∃ t, step s = .next t ∧ t.cc = s.cc + 1 ∧ t.cmd = w ∧ t.input = rest ∧ Answered t := by
  cases hw : decode w with
  | ok i =>
    obtain ⟨t, hexec, hanswer⟩ := exec_answered i (s.accept w rest)
    obtain ⟨hcc, hcmd, hinput⟩ := exec_keeps_channels hexec
    exact ⟨t, (step_command h hw).trans hexec, hcc, hcmd, hinput, hanswer⟩
  | error e =>
    have hframe := frame_illegalWord (s.accept w rest) w e
    exact ⟨_, step_illegal h hw, hframe.cc, hframe.cmd, hframe.input, answered_illegalWord ..⟩

/-- Settles O8: a command settles its result or refuses in a dead job, and an illegal word is refused. -/
theorem everyWordIsAnswered : Obligations.EveryWordIsAnswered := by
  intro s w rest hinput
  obtain ⟨t, hstep, -, hcmd, hrest, r, hresp, hcode⟩ := step_word hinput
  exact ⟨t, r, hstep, hresp, hrest, hcmd, hcode⟩

/-- SR.RD 14 reads the counter (R25, R332). -/
theorem exec_srRd_cc (s : State) : exec (.srRd 14) s = .next { s with resp := some ⟨true, s.cc⟩ } := by
  have hop : opSrRd 14 s = .done s s.cc.toNat := rfl
  have hval : zext32 s.cc.toNat = s.cc := by simp
  rw [show exec (.srRd 14) s = _ from runAlways_done hop, Safety.ok, hval]

/-- Settles O9: a word adds one whatever becomes of it, and JOB.NEW is the reset state with ROM and counter kept. -/
theorem commandCounter : Obligations.CommandCounter := by
  refine ⟨fun s t w rest hinput hstep => ?_, fun s t rest hinput hstep => ?_, exec_srRd_cc, fun s => ?_⟩
  · obtain ⟨u, hu, hcc, -⟩ := step_word hinput
    exact Host.Outcome.next.inj (hu.symm.trans hstep) ▸ hcc
  · exact Host.Outcome.next.inj ((step_reset hinput).symm.trans hstep) ▸ rfl
  · exact ⟨_, exec_jobNew s, rfl, rfl, rfl⟩

/-! ## The fault registers -/

theorem faultInv_of_dataChange {s t : State} (h : DataChange s t) (hs : FaultInv s) : FaultInv t := by
  cases h with
  | recordFault c n => exact ⟨rfl, nofun⟩
  | eccBlock b =>
    obtain ⟨n, d, heq, -⟩ := eccBlock_frame s b
    rw [heq]
    exact ⟨hs.flt, hs.noRecord⟩
  | accept | respond | pushText | buildBits | pushCodeword | sealBits | writePoly | splitBlocks | interleave =>
    exact ⟨hs.flt, hs.noRecord⟩

theorem faultInv_of_change {s t : State} (h : Change s t) (hs : FaultInv s) : FaultInv t := by
  cases h with
  | reset | newJob => exact ⟨rfl, fun _ => ⟨rfl, rfl⟩⟩
  | chooseTier => exact ⟨hs.flt, hs.noRecord⟩
  | data h => exact faultInv_of_dataChange h hs
  | matrix h => rw [h.frame]; exact ⟨hs.flt, hs.noRecord⟩

/-- Settles O58: only a fresh state and the record of a fault write the fault registers. -/
theorem faultRegistersInvariant : Obligations.FaultRegistersInvariant :=
  fun _ _ hfault hstep => (changes_step hstep).keep faultInv_of_change hfault

end Sys2Proof.Machine

/-! ## The printed tables -/

namespace Sys2Proof.Machine

/-- The relations of R38 and R39 in the row of tier `v`. -/
theorem standard_row_relations : ∀ v ∈ List.range' 1 40,
    let row := Rom.standard.row v
    row.side = 21 + 4 * (v - 1) ∧ row.cntW = (if v < 10 then 8 else 16) ∧
    row.g1b * row.g1w + row.g2b * row.g2w = row.td ∧ row.cap = (8 * row.td - 4 - row.cntW) / 8 ∧
    (row.g2b = 0 ∧ row.g2w = 0 ∨ row.g2w = row.g1w + 1) ∧ row.rem ≤ 7 ∧
    (v < 40 → row.cap < (Rom.standard.row (v + 1)).cap) ∧
    (∀ c ∈ row.al, c % 2 = 0 ∧ 6 ≤ c ∧ c + 7 ≤ row.side) ∧
    (∀ i ∈ List.range row.al.length, i + 1 < row.al.length → row.al.getD i 0 + 12 ≤ row.al.getD (i + 1) 0) := by
  decide

theorem standard_gfExp_eq_built : Rom.standard.gfExp = builtExp := by decide +kernel

theorem standard_gfLog_eq_built : Rom.standard.gfLog = builtLog := by decide +kernel

/-- R37: the logarithm of a non-zero element is below 255, and the power table leads back. -/
theorem exists_gfLog_of_ne_zero {v : Byte} (hv : v ≠ 0) :
    ∃ e, gfLog Rom.standard v = some e ∧ e.idx.toNat ≤ 254 ∧ gfExp Rom.standard e = v := by
  have all : ∀ v : Byte, v ≠ 0 →
      (gfLog Rom.standard v).any (fun e => e.idx.toNat ≤ 254 ∧ gfExp Rom.standard e = v) = true := by decide +kernel
  obtain ⟨e, he, hexp⟩ := (Option.any_eq_true _ _).mp (all v hv)
  exact ⟨e, he, of_decide_eq_true hexp⟩

theorem standard_gfExp_ne_zero : (0 : Byte) ∉ Rom.standard.gfExp := by decide +kernel

/-- R36: the powers below 255 are all different, since the logarithm of each is its exponent. -/
theorem standard_gfExp_nodup : (Rom.standard.gfExp.take 255).Nodup := by
  have hlog : (Rom.standard.gfExp.take 255).map (fun v => (gfLog Rom.standard v).map (·.idx.toNat)) =
      (List.range 255).map some := by decide +kernel
  have hexponents : ((List.range 255).map some).Nodup :=
    List.Pairwise.map some (fun _ _ hne heq => hne (Option.some.inj heq)) List.nodup_range
  rw [← hlog] at hexponents
  exact List.Pairwise.of_map _ (fun _ _ hne heq => hne (by rw [heq])) hexponents

/-- Settles O22: the rows, then the field tables. -/
theorem romTables : Obligations.RomTables :=
  ⟨rfl, standard_row_relations, rfl, rfl, standard_gfExp_eq_built, standard_gfLog_eq_built, by decide +kernel,
    standard_gfExp_ne_zero, standard_gfExp_nodup, fun _ => exists_gfLog_of_ne_zero, rfl⟩

end Sys2Proof.Machine

/-! ## A read that completes -/

namespace Sys2Proof.Machine

open Sys2Proof.Safety

/-! ### The response channel is no input of a read -/

/-- A result with another state in the place of the one it carries. -/
def Result.withState (r : Result) (u : State) : Result :=
  match r with
  | .done _ v => .done u v
  | .raised _ c n => .raised u c n

theorem withState_eq_done {r : Result} {s u : State} {v : Nat} (h : r = .done s v) : r.withState u = .done u v := by
  rw [h]; rfl

/-- A check that decides the same in both states, in front of results that agree. -/
theorem withState_guard {s u : State} {c : Prop} [Decidable c] {code : FaultCode} {n : Nat} {r r' : Result}
    (h : r' = r.withState u) : (if c then .raised u code n else r') = (if c then .raised s code n else r).withState u := by
  split
  · rfl
  · exact h

section Responded

variable (s : State) (r : Response)

theorem statusRegister_respondWith (n : Nat) : (s.respondWith r).statusRegister n = s.statusRegister n := rfl

theorem bitSelector_respondWith (a : Byte) : bitSelector (s.respondWith r) a = bitSelector s a := rfl

theorem penaltyOf_respondWith (pen : Nat → Grid → Nat) :
    penaltyOf pen (s.respondWith r) = (penaltyOf pen s).withState (s.respondWith r) := withState_guard rfl

/-- No read of R88 looks at the response given before it. -/
theorem opOf_respondWith_of_isRead {i : Instr} (h : isRead i = true) :
    opOf i (s.respondWith r) = (opOf i s).withState (s.respondWith r) := by
  cases i with
  | gfExp | gfMul | gfAdd => rfl
  | txtRd => exact withState_guard rfl
  | rsRdd => exact withState_guard (withState_guard (withState_guard rfl))
  | rsRde => exact withState_guard (withState_guard (withState_guard (withState_guard rfl)))
  | mkP1 | mkP2 | mkP3 | mkP4 => exact penaltyOf_respondWith ..
  | srRd a =>
    rw [opOf, opSrRd, opSrRd, statusRegister_respondWith]
    cases s.statusRegister a.toNat <;> rfl
  | tblRd a b c =>
    refine withState_guard ?_
    cases tblFieldOperand b with
    | none => rfl
    | some f => exact withState_guard rfl
  | bitsRd a | bitsRdb a =>
    simp only [opOf, opBitsRd, opBitsRdb, bitSelector_respondWith]
    cases bitSelector s a with
    | none => rfl
    | some seq => exact withState_guard rfl
  | gfLog a =>
    refine withState_guard ?_
    rw [State.respondWith_rom]
    cases gfLog s.rom a <;> rfl
  | pRd a =>
    rw [opOf, opPRd, opPRd]
    cases regOperand a with
    | none => rfl
    | some p => exact withState_guard rfl
  | pLen a =>
    rw [opOf, opPLen, opPLen]
    cases regOperand a <;> rfl
  | gridRd a =>
    rw [opOf, opGridRd, opGridRd]
    cases gridOperand a with
    | none => rfl
    | some sel => exact withState_guard (withState_guard (withState_guard rfl))
  | mkBit a =>
    rw [opOf, opMkBit, opMkBit]
    cases maskOperand a <;> rfl
  | mkRds a =>
    simp only [opOf, opMkRds, State.respondWith_score]
    cases maskOperand a with
    | none => rfl
    | some k =>
      dsimp only
      cases s.score[k] <;> rfl
  | _ => cases h

end Responded

/-! ### Commands that complete -/

theorem exec_of_done {i : Instr} {s u : State} {n : Nat} (hrun : isExempt i = true ∨ live s) (hop : opOf i s = .done u n) :
    exec i s = .next (u.complete n) := by
  rw [exec_eq_run]
  split
  · exact runAlways_done hop
  next hexempt => exact runLive_done (hrun.resolve_left hexempt) hop

/-- A command that answers `ok = 1` has run to its end: the answer of a dead job and fault entry say `ok = 0`. -/
theorem exec_completes {i : Instr} {s t : State} {v : Word} (h : exec i s = .next t) (hresp : t.resp = some ⟨true, v⟩) :
    (isExempt i = true ∨ live s) ∧ ∃ u n, opOf i s = .done u n ∧ t = u.complete n := by
  rw [exec_eq_run] at h
  split at h
  next hexempt =>
    obtain ⟨u, n, hop, rfl⟩ | ⟨u, c, n, -, rfl⟩ := runAlways_cases h
    · exact ⟨.inl hexempt, u, n, hop, rfl⟩
    · cases hresp
  · obtain ⟨-, rfl⟩ | ⟨hlive, u, n, hop, rfl⟩ | ⟨-, u, c, n, -, rfl⟩ := runLive_cases h
    · cases hresp
    · exact ⟨.inr hlive, u, n, hop, rfl⟩
    · cases hresp

/-- Settles O17: a read carries the state it started in, and its own response does not change what it reads. -/
theorem readsHaveNoSideEffects : Obligations.ReadsHaveNoSideEffects := by
  intro i s t v hread hexec hresp
  obtain ⟨hrun, u, n, hop, rfl⟩ := exec_completes hexec hresp
  obtain rfl : u = s := by simpa [hop] using opOf_state_of_isRead hread s
  have hagain : opOf i (u.complete n) = .done (u.complete n) n :=
    (opOf_respondWith_of_isRead u _ hread).trans (withState_eq_done hop)
  have hrepeat := exec_of_done (s := u.complete n) hrun hagain
  exact ⟨by rw [← hresp]; rfl, hrepeat⟩

end Sys2Proof.Machine

/-! ## Words and commands -/

namespace Sys2Proof

/-! ### The fields of a word (R110) -/

theorem assemble_fields (w : Word) : assemble (fieldOp w) (fieldA w) (fieldB w) (fieldC w) = w := by
  simp only [assemble, fieldOp, fieldA, fieldB, fieldC, BitVec.extractLsb'_append_extractLsb'_eq_extractLsb',
    BitVec.extractLsb'_eq_self]

theorem assembleImm_fields (w : Word) : assembleImm (fieldOp w) (fieldA w) (fieldImm w) = w := by
  simp only [assembleImm, fieldOp, fieldA, fieldImm, BitVec.extractLsb'_append_extractLsb'_eq_extractLsb',
    BitVec.extractLsb'_eq_self]

theorem assemble_eq_zero {op a b c : Byte} : assemble op a b c = 0 ↔ op = 0 ∧ a = 0 ∧ b = 0 ∧ c = 0 := by
  constructor
  · intro h
    exact ⟨(fieldOp_assemble ..).symm.trans (congrArg fieldOp h), (fieldA_assemble ..).symm.trans (congrArg fieldA h),
      (fieldB_assemble ..).symm.trans (congrArg fieldB h), (fieldC_assemble ..).symm.trans (congrArg fieldC h)⟩
  · rintro ⟨rfl, rfl, rfl, rfl⟩
    rfl

theorem assemble_and_assemble (op a b c op' a' b' c' : Byte) : assemble op a b c &&& assemble op' a' b' c' =
    assemble (op &&& op') (a &&& a') (b &&& b') (c &&& c') := by
  simp only [assemble, ← BitVec.and_append]

/-- A word has no bit of a mask when none of its fields has one. -/
theorem and_assemble_eq_zero {w : Word} {op a b c : Byte} : w &&& assemble op a b c = 0 ↔
    fieldOp w &&& op = 0 ∧ fieldA w &&& a = 0 ∧ fieldB w &&& b = 0 ∧ fieldC w &&& c = 0 := by
  rw [← assemble_eq_zero, ← assemble_and_assemble, assemble_fields]

/-! ### The bits a format leaves unused (R111) -/

section Formats

variable {w : Word}

theorem and_255 (x : Byte) : x &&& 255#8 = x := BitVec.and_allOnes

theorem and_mustBeZero_z : w &&& WellFormed.mustBeZero .z = 0 ↔ fieldA w = 0 ∧ fieldB w = 0 ∧ fieldC w = 0 := by
  rw [show WellFormed.mustBeZero .z = assemble 0 0xFF 0xFF 0xFF from rfl, and_assemble_eq_zero]
  simp [and_255]

theorem and_mustBeZero_a : w &&& WellFormed.mustBeZero .a = 0 ↔ fieldB w = 0 ∧ fieldC w = 0 := by
  rw [show WellFormed.mustBeZero .a = assemble 0 0 0xFF 0xFF from rfl, and_assemble_eq_zero]
  simp [and_255]

theorem and_mustBeZero_ab : w &&& WellFormed.mustBeZero .ab = 0 ↔ fieldC w = 0 := by
  rw [show WellFormed.mustBeZero .ab = assemble 0 0 0 0xFF from rfl, and_assemble_eq_zero]
  simp [and_255]

theorem and_mustBeZero_i : w &&& WellFormed.mustBeZero .i = 0 ↔ fieldA w = 0 := by
  rw [show WellFormed.mustBeZero .i = assemble 0 0xFF 0 0 from rfl, and_assemble_eq_zero]
  simp [and_255]

/-- The word with the given opcode, the operand fields of `w` that a format uses, and its unused fields zero. -/
def usedFields (op : Byte) (w : Word) : Format → Word
  | .z => assemble op 0 0 0
  | .a => assemble op (fieldA w) 0 0
  | .ab => assemble op (fieldA w) (fieldB w) 0
  | .abc => assemble op (fieldA w) (fieldB w) (fieldC w)
  | .i => assembleImm op 0 (fieldImm w)
  | .ai => assembleImm op (fieldA w) (fieldImm w)

theorem usedFields_eq_self {f : Format} (h : w &&& WellFormed.mustBeZero f = 0) : usedFields (fieldOp w) w f = w := by
  cases f with
  | z =>
    obtain ⟨ha, hb, hc⟩ := and_mustBeZero_z.mp h
    simpa only [usedFields, ha, hb, hc] using assemble_fields w
  | a =>
    obtain ⟨hb, hc⟩ := and_mustBeZero_a.mp h
    simpa only [usedFields, hb, hc] using assemble_fields w
  | ab => simpa only [usedFields, and_mustBeZero_ab.mp h] using assemble_fields w
  | abc => exact assemble_fields w
  | i => simpa only [usedFields, and_mustBeZero_i.mp h] using assembleImm_fields w
  | ai => exact assembleImm_fields w

/-! ### The six ways to read a word are one -/

/-- What a word of format `f` decodes to where its opcode and operand fields say `i`. -/
def readAs (f : Format) (w : Word) (i : Instr) : Except DecodeError Instr :=
  if w &&& WellFormed.mustBeZero f = 0 then .ok i else .error .mustBeZeroBit

theorem asZ_eq (i : Instr) : asZ w i = readAs .z w i := by
  simp only [asZ, readAs, and_mustBeZero_z]

theorem asA_eq (f : Byte → Instr) : asA w f = readAs .a w (f (fieldA w)) := by
  simp only [asA, readAs, and_mustBeZero_a]

theorem asAB_eq (f : Byte → Byte → Instr) : asAB w f = readAs .ab w (f (fieldA w) (fieldB w)) := by
  simp only [asAB, readAs, and_mustBeZero_ab]

theorem asABC_eq (f : Byte → Byte → Byte → Instr) : asABC w f = readAs .abc w (f (fieldA w) (fieldB w) (fieldC w)) :=
  (if_pos BitVec.and_zero).symm

theorem asI_eq (f : Half → Instr) : asI w f = readAs .i w (f (fieldImm w)) := by
  simp only [asI, readAs, and_mustBeZero_i]

theorem asAI_eq (f : Byte → Half → Instr) : asAI w f = readAs .ai w (f (fieldA w) (fieldImm w)) :=
  (if_pos BitVec.and_zero).symm

end Formats

/-! ### What the decoder makes of a word (R114, R115) -/

/-- The outcomes of decoding a word, by the format listed for its opcode: an unlisted opcode is rejected for that; a word
with its unused bits zero is the word of the command it decodes to; any other is rejected for an unused bit. -/
inductive Decodes (w : Word) : Option Format → Except DecodeError Instr → Prop
  | unlisted : Decodes w none (.error .unlistedOpcode)
  | legal {f : Format} {i : Instr} (hzero : w &&& WellFormed.mustBeZero f = 0) (hencode : encode i = w) :
    Decodes w (some f) (.ok i)
  | mustBeZero {f : Format} (hbit : w &&& WellFormed.mustBeZero f ≠ 0) : Decodes w (some f) (.error .mustBeZeroBit)

theorem decodes_readAs {w : Word} {op : Byte} {f : Format} {i : Instr} (hop : fieldOp w = op)
    (hlist : WellFormed.formatTable.lookup op = some f) (hencode : encode i = usedFields op w f) :
    Decodes w (WellFormed.formatTable.lookup (fieldOp w)) (readAs f w i) := by
  subst hop
  rw [hlist, readAs]
  split
  next hzero => exact .legal hzero (hencode.trans (usedFields_eq_self hzero))
  next hbit => exact .mustBeZero hbit

/-- The seven ranges of R115. -/
theorem lookup_formatTable_eq_none : ∀ op : Byte, WellFormed.formatTable.lookup op = none ↔
    (0x05 ≤ op.toNat ∧ op.toNat ≤ 0x0F) ∨ (0x19 ≤ op.toNat ∧ op.toNat ≤ 0x1F) ∨
    (0x24 ≤ op.toNat ∧ op.toNat ≤ 0x2F) ∨ (0x39 ≤ op.toNat ∧ op.toNat ≤ 0x3F) ∨
    (0x47 ≤ op.toNat ∧ op.toNat ≤ 0x4F) ∨ (0x5B ≤ op.toNat ∧ op.toNat ≤ 0x5F) ∨ 0x69 ≤ op.toNat := by
  decide +kernel

/-- Each arm of the decoder reads its word in the format listed for its opcode; the last arm has the unlisted opcodes. -/
theorem decode_decodes (w : Word) : Decodes w (WellFormed.formatTable.lookup (fieldOp w)) (decode w) := by
  have hop {n : Nat} (h : (fieldOp w).toNat = n) : fieldOp w = BitVec.ofNat 8 n := by simp [← h]
  simp only [decode, asZ_eq, asA_eq, asAB_eq, asABC_eq, asI_eq, asAI_eq]
  split
  case h_55 =>
    have hlist : WellFormed.formatTable.lookup (fieldOp w) = none := by
      rw [lookup_formatTable_eq_none]
      simp only [imp_false] at *
      omega
    exact hlist ▸ .unlisted
  all_goals next h => exact decodes_readAs (hop h) rfl rfl

/-- A legal word has no bit its command does not determine. -/
theorem encode_of_decode {w : Word} {i : Instr} (h : decode w = .ok i) : encode i = w := by
  have hw := decode_decodes w
  rw [h] at hw
  generalize WellFormed.formatTable.lookup (fieldOp w) = listed at hw
  cases hw with
  | legal _ hencode => exact hencode

/-- The fields of a command's word are its opcode and its operands. -/
theorem decode_encode (i : Instr) : decode (encode i) = .ok i := by
  cases i <;> simp [encode, decode, asZ, asA, asAB, asABC, asI, asAI]

/-- Settles O1: the converse holds because the word is put together again from the fields its format uses. -/
theorem decodeEncodeRoundTrip : Obligations.DecodeEncodeRoundTrip :=
  ⟨decode_encode, fun _ _ => encode_of_decode⟩

/-- Settles O2, a clause for each outcome of decoding. -/
theorem decodeAcceptsLegalWords : Obligations.DecodeAcceptsLegalWords := by
  intro w
  rw [← lookup_formatTable_eq_none]
  have hw := decode_decodes w
  generalize decode w = outcome, WellFormed.formatTable.lookup (fieldOp w) = listed at hw
  cases hw with
  | unlisted => simp
  | legal hzero hencode => simp [hzero]
  | mustBeZero hbit => simpa using hbit

/-- Settles O3: a legal word of the examples is the word `encode` evaluates to. -/
theorem sampleWordsDecode : Obligations.SampleWordsDecode :=
  ⟨decode_encode .nop, decode_encode (.tblRd 12 0 0), decode_encode (.tblRd 7 9 2), decode_encode (.txtPush 0x48),
    decode_encode (.txtRd 0), decode_encode (.bitsRdb 0 1), decode_encode (.gfMul 2 128), decode_encode (.pPush 0 0x12),
    decode_encode (.pMov 1 3), decode_encode (.rsRdd 2 15), decode_encode (.gridRd 3 8 13), decode_encode (.mkBit 4 2 1),
    rfl, rfl⟩

end Sys2Proof

/-! ## Illegal words and operands out of range -/

namespace Sys2Proof.Machine

open Sys2Proof.Safety

/-! ### Illegal words (R115, R353, R357) -/

theorem exemptOpcode_iff (w : Word) : exemptOpcode w = true ↔ (fieldOp w).toNat ≤ 2 := by
  simp only [exemptOpcode, Bool.or_eq_true, beq_iff_eq, ← BitVec.toNat_inj]
  change ((_ = 0 ∨ _ = 1) ∨ _ = 2) ↔ _
  omega

section IllegalWords

variable {s : State} {w : Word} {rest : List Input} {e : DecodeError}

theorem step_illegal_of_live (hinput : s.input = .command w :: rest) (hlive : live s) (hw : decode w = .error e) :
    step s = .next (trapped .illegalCommand (DecodeError.info e) (s.accept w rest)) := by
  rw [step_illegal hinput hw, illegalWord_of_live (s := s.accept w rest) hlive]

theorem step_illegal_of_dead (hinput : s.input = .command w :: rest) (hdead : s.flt = true) (hw : decode w = .error e) :
    step s = .next { s.accept w rest with
      resp := failed (if exemptOpcode w then .illegalCommand else .sequenceError) } := by
  rw [step_illegal hinput hw, illegalWord_of_dead (s := s.accept w rest) hdead]

end IllegalWords

/-- Settles O5: the word is accepted, then answered by what is left of the checks of R353. -/
theorem illegalWordFaults : Obligations.IllegalWordFaults := by
  intro s w rest hinput
  refine ⟨step_illegal_of_live hinput, step_illegal_of_live hinput, fun e hdead hw hop => ?_, fun e hdead hw hop => ?_⟩
  · rw [step_illegal_of_dead hinput hdead hw, if_neg (mt (exemptOpcode_iff w).mp (by omega))]
    rfl
  · rw [step_illegal_of_dead hinput hdead hw, if_pos ((exemptOpcode_iff w).mpr hop)]
    rfl

/-! ### Operands out of range (R112, R116) -/

theorem DataStage.code_eq_zero {d : DataStage} : d.code = 0 ↔ d = .text := by cases d <;> decide

section Operands

variable {a : Byte}

theorem regOperand_eq_none : regOperand a = none ↔ ¬ a.toNat ≤ 3 := by
  unfold regOperand
  split
  case h_5 => exact iff_of_true rfl (by simp only [imp_false] at *; omega)
  all_goals next h => simp [h]

theorem gridOperand_eq_none (h : ¬ a.toNat ≤ 3) : gridOperand a = none := by
  unfold gridOperand
  split
  case h_5 => rfl
  all_goals omega

theorem bitSelector_eq_none (s : State) (h : ¬ a.toNat ≤ 1) : bitSelector s a = none := by
  unfold bitSelector
  split
  case h_3 => rfl
  all_goals omega

theorem maskOperand_eq_none (h : ¬ a.toNat ≤ 7) : maskOperand a = none := dif_neg (by omega)

theorem tblFieldOperand_eq_none (h : ¬ a.toNat ≤ 11) : tblFieldOperand a = none := by
  unfold tblFieldOperand
  split
  case h_13 => rfl
  all_goals omega

theorem statusRegister_eq_none (s : State) {n : Nat} (h : ¬ n ≤ 15) : s.statusRegister n = none := by
  unfold State.statusRegister
  split
  case h_17 => rfl
  all_goals omega

theorem tierInRange_iff : tierInRange a = true ↔ 1 ≤ a.toNat ∧ a.toNat ≤ 40 := by
  rw [tierInRange, Bool.and_eq_true, decide_eq_true_iff, decide_eq_true_iff]
  rfl

end Operands

/-- An operand out of range is found by the operation's first check after that of the stage. -/
theorem opOf_of_offending {i : Instr} {s : State} {v : Nat} (hstage : stageOk s i = true) (h : offending i = some v) :
    opOf i s = rangeError v s := by
  cases i with
  | srRd a =>
    obtain ⟨hout, rfl⟩ : ¬ a.toNat ≤ 15 ∧ a.toNat = v := by simpa [offending] using h
    simp only [opOf, opSrRd, statusRegister_eq_none s hout]
  | tblRd a b c =>
    by_cases htier : 1 ≤ a.toNat ∧ a.toNat ≤ 40
    · obtain ⟨hout, rfl⟩ : ¬ b.toNat ≤ 11 ∧ b.toNat = v := by simpa [offending, htier] using h
      simp only [opOf, opTblRd, tierInRange_iff.mpr htier, tblFieldOperand_eq_none hout, not_true, if_false]
    · obtain rfl : a.toNat = v := by simpa [offending, htier] using h
      exact if_pos (mt tierInRange_iff.mp htier)
  | vset a =>
    obtain ⟨hout, rfl⟩ : ¬ (1 ≤ a.toNat ∧ a.toNat ≤ 40) ∧ a.toNat = v := by simpa [offending] using h
    have hds : s.ds = .text := DataStage.code_eq_zero.mp (by simpa [stageOk] using hstage)
    exact (if_neg (not_not_intro hds)).trans (if_pos (mt tierInRange_iff.mp hout))
  | bitsRd a imm | bitsRdb a imm =>
    obtain ⟨hout, rfl⟩ : ¬ a.toNat ≤ 1 ∧ a.toNat = v := by simpa [offending] using h
    simp only [opOf, opBitsRd, opBitsRdb, bitSelector_eq_none s hout]
  | pClr a | pPush a b | pRd a b | pLen a =>
    obtain ⟨hout, rfl⟩ : ¬ a.toNat ≤ 3 ∧ a.toNat = v := by simpa [offending] using h
    simp only [opOf, opPClr, opPPush, opPRd, opPLen, regOperand_eq_none.mpr hout]
  | pMov a b =>
    by_cases hdst : a.toNat ≤ 3
    · obtain ⟨hout, rfl⟩ : ¬ b.toNat ≤ 3 ∧ b.toNat = v := by simpa [offending, hdst] using h
      obtain ⟨dst, hdst⟩ := Option.ne_none_iff_exists'.mp (mt regOperand_eq_none.mp (not_not_intro hdst))
      simp only [opOf, opPMov, hdst, regOperand_eq_none.mpr hout]
    · obtain rfl : a.toNat = v := by simpa [offending, hdst] using h
      simp only [opOf, opPMov, regOperand_eq_none.mpr hdst]
  | gridRd a b c =>
    obtain ⟨hout, rfl⟩ : ¬ a.toNat ≤ 3 ∧ a.toNat = v := by simpa [offending] using h
    simp only [opOf, opGridRd, gridOperand_eq_none hout]
  | mkBit a b c | mkRds a =>
    obtain ⟨hout, rfl⟩ : ¬ a.toNat ≤ 7 ∧ a.toNat = v := by simpa [offending] using h
    simp only [opOf, opMkBit, opMkRds, maskOperand_eq_none hout]
  | mkApply a =>
    obtain ⟨hout, rfl⟩ : ¬ a.toNat ≤ 7 ∧ a.toNat = v := by simpa [offending] using h
    have hms : 8 ≤ s.ms.code := by simpa [stageOk] using hstage
    simp only [opOf, opMkApply, hms, maskOperand_eq_none hout, not_true, if_false]
  | _ => cases h

/-- A fault of a live job is entered alike by the commands a dead job executes and by the others. -/
theorem exec_of_raised {i : Instr} {s : State} {c : FaultCode} {n : Nat} (hlive : live s)
    (hop : opOf i s = .raised s c n) : exec i s = .next (trapped c n s) := by
  rw [exec_eq_run]
  split
  · rw [runAlways, hop, settle_raised, faultEntry_of_live hlive]
  · exact runLive_raised hlive hop

/-- Settles O15: the operand is found out of range in a live job, with nothing done before. -/
theorem outOfRangeOperandFaults : Obligations.OutOfRangeOperandFaults :=
  fun i _ _ hlive hstage hout => ⟨decode_encode i, exec_of_raised hlive (opOf_of_offending hstage hout)⟩

end Sys2Proof.Machine

/-! ## The front end -/

namespace Sys2Proof.Machine

open Sys2Proof.Safety

/-! ### The tier selected (R142) -/

/-- The first row that holds the text, where there is one. -/
theorem firstTier_eq_add_findIdx {len : Nat} {rows : List TierRow} (h : ∃ row ∈ rows, len ≤ row.cap) (v : Nat) :
    firstTier len rows v = v + rows.findIdx (len ≤ ·.cap) := by
  induction rows generalizing v with
  | nil => simp at h
  | cons row rows ih =>
    rw [firstTier, List.findIdx_cons]
    by_cases hrow : len ≤ row.cap
    · simp [hrow]
    · obtain ⟨r, hr, hcap⟩ := h
      have hne : r ≠ row := by
        rintro rfl
        exact hrow hcap
      have hrest : ∃ r ∈ rows, len ≤ r.cap := ⟨r, (List.mem_cons.mp hr).resolve_left hne, hcap⟩
      rw [if_neg hrow, ih hrest, decide_eq_false hrow, cond_false]
      omega

theorem selectTier_eq_findIdx {len : Nat} (hlen : len ≤ 1663) :
    selectTier Rom.standard len = Rom.standard.tiers.findIdx (len ≤ ·.cap) + 1 := by
  have hlast : ∃ row ∈ Rom.standard.tiers, 1663 ≤ row.cap := by decide
  obtain ⟨row, hrow, hcap⟩ := hlast
  rw [selectTier, firstTier_eq_add_findIdx ⟨row, hrow, Nat.le_trans hlen hcap⟩, Nat.add_comm]

theorem standard_row_succ {i : Nat} (h : i < Rom.standard.tiers.length) :
    Rom.standard.row (i + 1) = Rom.standard.tiers[i] :=
  (List.getElem_eq_getD _).symm

theorem le_cap_selectTier {len : Nat} (hlen : len ≤ 1663) :
    len ≤ (Rom.standard.row (selectTier Rom.standard len)).cap := by
  have hbound := (selectTier_bounds rfl len).2
  rw [selectTier_eq_findIdx hlen] at hbound ⊢
  rw [standard_row_succ (Nat.lt_of_succ_le hbound)]
  exact of_decide_eq_true (List.findIdx_getElem (w := Nat.lt_of_succ_le hbound))

theorem cap_lt_of_lt_selectTier {len u : Nat} (hlen : len ≤ 1663) (h1 : 1 ≤ u) (hu : u < selectTier Rom.standard len) :
    (Rom.standard.row u).cap < len := by
  have hbound := (selectTier_bounds rfl len).2
  obtain ⟨i, rfl⟩ := Nat.exists_eq_add_of_le' h1
  rw [standard_row_succ (show i < 40 by omega)]
  rw [selectTier_eq_findIdx hlen] at hu
  exact Nat.lt_of_not_le (of_decide_eq_false (List.not_of_lt_findIdx (Nat.lt_of_succ_lt_succ hu)))

/-- R142: a longer text needs no smaller tier, for its tier holds the shorter text too. -/
theorem selectTier_mono {a b : Nat} (hab : a ≤ b) (hb : b ≤ 1663) :
    selectTier Rom.standard a ≤ selectTier Rom.standard b := by
  refine Nat.le_of_not_lt fun hlt => ?_
  have hfit := le_cap_selectTier hb
  have hshort := cap_lt_of_lt_selectTier (Nat.le_trans hab hb) (selectTier_bounds rfl b).1 hlt
  omega

/-- Settles O26: the tier selected is the number of the first row that holds the text. -/
theorem vselPicksSmallestTier : Obligations.VselPicksSmallestTier := by
  refine ⟨decode_encode .vsel, rfl, rfl, rfl, rfl, fun s hlive hrom hds hlen => ?_, fun s hlive hds hlen => ?_,
    fun s hlive hds => ?_, fun a b hab => selectTier_mono (Nat.le_of_lt hab)⟩
  · obtain ⟨h1, h40⟩ := selectTier_bounds (rfl : Rom.standard = _) s.text.length
    refine ⟨selectTier Rom.standard s.text.length, h1, h40, le_cap_selectTier hlen,
      fun u => cap_lt_of_lt_selectTier hlen, ?_⟩
    have hop : opOf .vsel s = .done { s with tier := selectTier s.rom s.len, ds := .tiered } (selectTier s.rom s.len) :=
      (if_neg (not_not_intro hds)).trans (if_neg (Nat.not_lt.mpr hlen))
    rw [exec_of_done (.inr hlive) hop, hrom]
    rfl
  · exact exec_of_raised hlive ((if_neg (not_not_intro hds)).trans (if_pos hlen))
  · exact exec_of_raised hlive (if_pos hds)

/-! ### Codewords of a bit sequence (R13, R81) -/

/-- `bits_8` is the inverse of `byte_of` on eight bits (R13). -/
theorem bits8_byteOf {bs : List Bool} (h : bs.length = 8) : bits8 (byteOf bs) = bs := by
  have all : ∀ b0 b1 b2 b3 b4 b5 b6 b7 : Bool,
      bits8 (byteOf [b0, b1, b2, b3, b4, b5, b6, b7]) = [b0, b1, b2, b3, b4, b5, b6, b7] := by decide
  match bs, h with
  | [b0, b1, b2, b3, b4, b5, b6, b7], _ => exact all b0 b1 b2 b3 b4 b5 b6 b7

theorem getElem?_bits8 (b : Byte) {j : Nat} (h : j < 8) : (bits8 b)[j]? = some (b.getLsbD (7 - j)) := by
  rw [bits8, bitsOf, List.getElem?_map, List.getElem?_range h]
  rfl

/-- The bits of a codeword stand in its sequence, the most significant first (R81). -/
theorem getElem?_codewordAt {seq : List Bool} {i j : Nat} (hseq : 8 * i + 8 ≤ seq.length) (hj : j < 8) :
    seq[8 * i + j]? = some ((codewordAt seq i).getLsbD (7 - j)) := by
  have hlen : ((seq.drop (8 * i)).take 8).length = 8 := by
    rw [List.length_take, List.length_drop]
    omega
  rw [← getElem?_bits8 _ hj, codewordAt, bits8_byteOf hlen, List.getElem?_take_of_lt hj, List.getElem?_drop]

/-- Codewords counted from the end of a part that is whole codewords. -/
theorem codewordAt_append_add {pre : List Bool} {n : Nat} (hpre : pre.length = 8 * n) (s : List Bool) (k : Nat) :
    codewordAt (pre ++ s) (n + k) = codewordAt s k := by
  unfold codewordAt
  rw [Nat.mul_add, ← hpre, List.drop_length_add_append]

theorem bitSelector_of_selects {s : State} {a : Byte} {seq : List Bool}
    (h : a = 0 ∧ seq = s.bits ∨ a = 1 ∧ seq = s.final) : bitSelector s a = some seq := by
  obtain ⟨rfl, rfl⟩ | ⟨rfl, rfl⟩ := h <;> rfl

theorem opBitsRd_of_selector {s : State} {a : Byte} {seq : List Bool} (h : bitSelector s a = some seq) (k : Half) :
    opBitsRd a k s =
      if ¬ k.toNat < seq.length then rangeError k.toNat s else .done s (readBit seq k.toNat).toNat := by
  rw [opBitsRd, h]

theorem opBitsRdb_of_selector {s : State} {a : Byte} {seq : List Bool} (h : bitSelector s a = some seq) (k : Half) :
    opBitsRdb a k s =
      if ¬ 8 * k.toNat + 8 ≤ seq.length then rangeError k.toNat s else .done s (codewordAt seq k.toNat).toNat := by
  rw [opBitsRdb, h]

/-- Settles O29: the selector decides which sequence is read, its length whether the read completes. -/
theorem bitBufferReads : Obligations.BitBufferReads := by
  intro s a k hlive
  refine ⟨decode_encode (.bitsRd a k), decode_encode (.bitsRdb a k), fun ha => ?_, fun seq hseq => ?_⟩
  · have hout {v : Nat} : (if a.toNat ≤ 1 then none else some v) = some v := if_neg (Nat.not_le.mpr ha)
    exact ⟨exec_of_raised hlive (opOf_of_offending (i := .bitsRd a k) rfl hout),
      exec_of_raised hlive (opOf_of_offending (i := .bitsRdb a k) rfl hout)⟩
  have hrd : opOf (.bitsRd a k) s = _ := opBitsRd_of_selector (bitSelector_of_selects hseq) k
  have hrdb : opOf (.bitsRdb a k) s = _ := opBitsRdb_of_selector (bitSelector_of_selects hseq) k
  refine ⟨fun b hb => ?_, fun hout => ?_, fun hin => ?_, fun hout => ?_⟩
  · obtain ⟨hin, rfl⟩ := List.getElem?_eq_some_iff.mp hb
    refine exec_of_done (.inr hlive) (hrd.trans ?_)
    rw [if_neg (not_not_intro hin), readBit, ← List.getElem_eq_getD]
  · exact exec_of_raised hlive (hrd.trans (if_pos (Nat.not_lt.mpr hout)))
  · exact ⟨codewordAt seq k.toNat, exec_of_done (.inr hlive) (hrdb.trans (if_neg (not_not_intro hin))),
      fun j => getElem?_codewordAt hin⟩
  · exact exec_of_raised hlive (hrdb.trans (if_pos (Nat.not_le.mpr hout)))

/-! ### The stream at a printed tier (R145, R38) -/

/-- A text of exactly the capacity fills the tier, with its mode marker, its count and a full terminator (R38, R146). -/
theorem standard_row_stream {v : Nat} (h1 : 1 ≤ v) (h40 : v ≤ 40) :
    4 + (Rom.standard.row v).cntW + 8 * (Rom.standard.row v).cap + 4 = 8 * (Rom.standard.row v).td := by
  have all : ∀ v, v < 41 → 1 ≤ v →
      4 + (Rom.standard.row v).cntW + 8 * (Rom.standard.row v).cap + 4 = 8 * (Rom.standard.row v).td := by decide
  exact all v (by omega) h1

theorem length_streamHead (rom : Rom) (text : List Byte) (row : TierRow) :
    (streamHead rom text row).length = 4 + row.cntW + 8 * text.length := by
  simp only [streamHead, List.length_append, length_bitsOf, length_flatMap_bits8]

/-- Corner case (1) of R146: a terminator of four bits that ends at a byte boundary needs no padding. -/
theorem terminated_eq {head : List Bool} {cap : Nat} (hfit : head.length + 4 ≤ cap) (hbyte : (head.length + 4) % 8 = 0) :
    terminated head cap = head ++ zeroBits 4 := by
  have hfour : min 4 (cap - head.length) = 4 := by omega
  simp only [terminated, hfour, List.length_append, length_zeroBits, hbyte]
  exact List.append_nil _

/-- Codeword `k` of the filler is the filler byte of its parity (R145). -/
theorem codewordAt_filler {rom : Rom} {n cap k : Nat} (h : k < (cap - n + 7) / 8) :
    codewordAt (filler rom n cap) k = fillerByte rom k := by
  have hmap := codewordAt_flatMap ((List.range ((cap - n + 7) / 8)).map (fillerByte rom)) [] k (by simpa using h)
  simpa [filler, List.flatMap_map] using hmap

/-- The stream of a text that its tier holds: head, terminator, filler (R145). -/
theorem buildStream_of_fits {rom : Rom} {text : List Byte} {row : TierRow} {n : Nat}
    (hn : (streamHead rom text row).length + 4 = n) (hfit : n ≤ 8 * row.td) (hbyte : n % 8 = 0) :
    buildStream rom text row =
      some (streamHead rom text row ++ zeroBits 4 ++ filler rom n (8 * row.td)) := by
  subst hn
  have hhead : ¬ (streamHead rom text row).length > 8 * row.td := by omega
  simp only [buildStream, terminated_eq hfit hbyte, List.length_append, length_zeroBits, if_neg hhead,
    if_neg (Nat.not_lt.mpr hfit)]

theorem buildStream_of_long {rom : Rom} {text : List Byte} {row : TierRow}
    (hlong : 8 * row.td < (streamHead rom text row).length) : buildStream rom text row = none :=
  if_pos hlong

theorem fillerByte_standard (k : Nat) : fillerByte Rom.standard k = if k % 2 = 0 then 0xEC else 0x11 := rfl

theorem opBsb_of_stream {s : State} {bits : List Bool} (hds : s.ds = .tiered) (hbits : s.bits = [])
    (h : buildStream s.rom s.text s.row = some bits) :
    opOf .bsb s = .done { s with bits := bits, ds := .padded } bits.length := by
  rw [opOf, opBsb, if_neg (not_not_intro ⟨hds, congrArg List.length hbits⟩), h]

theorem opBsb_of_no_stream {s : State} (hds : s.ds = .tiered) (hbits : s.bits = [])
    (h : buildStream s.rom s.text s.row = none) : opOf .bsb s = .raised s .internalTableError 2 := by
  rw [opOf, opBsb, if_neg (not_not_intro ⟨hds, congrArg List.length hbits⟩), h]

/-- Settles O28: the capacity of a printed tier leaves room for a full terminator, which ends a codeword; a longer text
overruns the tier with its head alone. -/
theorem bsbBuildsPaddedStream : Obligations.BsbBuildsPaddedStream := by
  intro s hlive
  refine ⟨decode_encode .bsb, fun hstage => ?_, fun hrom h1 h40 => ?_⟩
  · exact exec_of_raised hlive (if_pos (by rwa [State.blen, List.length_eq_zero_iff]))
  obtain ⟨-, hcnt, -⟩ := standard_row_relations s.tier (List.mem_range'_1.mpr ⟨h1, Nat.lt_succ_of_le h40⟩)
  have hcap := standard_row_stream h1 h40
  have hrow : s.row = Rom.standard.row s.tier := by rw [State.row, hrom]
  have hhead := length_streamHead Rom.standard s.text (Rom.standard.row s.tier)
  rw [← hcnt]
  generalize Rom.standard.row s.tier = row at *
  have hbyte : (4 + row.cntW + 8 * s.text.length + 4) % 8 = 0 := by omega
  refine ⟨fun hds hbits hlen => ?_, fun hds hbits hlen => ?_⟩
  · have hstream := buildStream_of_fits (congrArg (· + 4) hhead) (by omega) hbyte
    have hop := opBsb_of_stream hds hbits (by rwa [hrom, hrow])
    have hout := length_of_buildStream hstream
    rw [hout] at hop
    refine ⟨_, exec_of_done (.inr hlive) hop, hout, ?_, fun k hk => ?_⟩
    · exact List.take_left' (by rw [List.length_append, hhead, length_zeroBits])
    · rw [codewordAt_append_add, codewordAt_filler, fillerByte_standard]
      · omega
      · rw [List.length_append, hhead, length_zeroBits]
        omega
  · have hstream := buildStream_of_long (rom := Rom.standard) (text := s.text) (row := row) (by omega)
    exact exec_of_raised hlive (opBsb_of_no_stream hds hbits (by rwa [hrom, hrow]))

/-! ### Text buffer and direct entry (R140, R141, R144, R147, R148) -/

/-- Settles O25: the stage is checked before the depth, and an index is in range where the text has a byte. -/
theorem textCommands : Obligations.TextCommands := by
  intro s a k hlive
  refine ⟨decode_encode (.txtPush a), decode_encode (.txtRd k), fun hds hlen => ?_, fun hds => ?_, fun hds hlen => ?_,
    fun v hv => ?_, fun hout => ?_⟩
  · have hop : opOf (.txtPush a) s = .done { s with text := s.text ++ [a] } 0 :=
      (if_neg (not_not_intro hds)).trans (if_neg (not_not_intro hlen))
    exact exec_of_done (.inr hlive) hop
  · exact exec_of_raised hlive (if_pos hds)
  · exact exec_of_raised hlive ((if_neg (not_not_intro hds)).trans (if_pos (Nat.not_lt.mpr hlen)))
  · obtain ⟨hin, rfl⟩ := List.getElem?_eq_some_iff.mp hv
    have hop : opOf (.txtRd k) s = .done s (s.readText k.toNat).toNat := if_neg (not_not_intro hin)
    rw [State.readText, ← List.getElem_eq_getD (h := hin)] at hop
    exact exec_of_done (.inr hlive) hop
  · exact exec_of_raised hlive (if_pos (Nat.not_lt.mpr (List.getElem?_eq_none_iff.mp hout)))

/-- Settles O27: each command checks its stage first, then its operand or the room left in the tier. -/
theorem directEntryCommands : Obligations.DirectEntryCommands := by
  intro s a hlive
  refine ⟨decode_encode (.vset a), decode_encode (.dcwPush a), decode_encode .dcwSeal, fun hds h1 h40 => ?_,
    fun hds => ?_, fun hds htier => ?_, fun hds hfit => ?_, fun hds => ?_, fun hds hfull => ?_, fun hds hfull => ?_,
    fun hds => ?_, fun hds hopen => ?_⟩
  · have hop : opOf (.vset a) s = .done { s with tier := a.toNat, ds := .tiered } a.toNat :=
      (if_neg (not_not_intro hds)).trans (if_neg (not_not_intro (tierInRange_iff.mpr ⟨h1, h40⟩)))
    exact exec_of_done (.inr hlive) hop
  · exact exec_of_raised hlive (if_pos hds)
  · exact exec_of_raised hlive ((if_neg (not_not_intro hds)).trans (if_pos (mt tierInRange_iff.mp htier)))
  · have hop : opOf (.dcwPush a) s = .done { s with bits := s.bits ++ bits8 a } 0 :=
      (if_neg (not_not_intro hds)).trans (if_neg (not_not_intro hfit))
    exact exec_of_done (.inr hlive) hop
  · exact exec_of_raised hlive (if_pos hds)
  · exact exec_of_raised hlive ((if_neg (not_not_intro hds)).trans (if_pos (Nat.not_le.mpr hfull)))
  · have hop : opOf .dcwSeal s = .done { s with ds := .padded } s.blen :=
      (if_neg (not_not_intro hds)).trans (if_neg (not_not_intro hfull))
    exact exec_of_done (.inr hlive) hop
  · exact exec_of_raised hlive (if_pos hds)
  · exact exec_of_raised hlive ((if_neg (not_not_intro hds)).trans (if_pos hopen))

end Sys2Proof.Machine

/-! ## The field -/

namespace Sys2Proof.Machine

open Sys2Proof.Safety

/-! ### Doubling (R36, R170) -/

theorem timesPower_nextPower (n v : Nat) : timesPower n (nextPower v) = nextPower (timesPower n v) := by
  induction n with
  | zero => rfl
  | succ n ih => rw [timesPower, ih, timesPower]

theorem timesPower_add (m n v : Nat) : timesPower (m + n) v = timesPower m (timesPower n v) := by
  induction m with
  | zero => rw [Nat.zero_add, timesPower]
  | succ m ih => rw [Nat.succ_add, timesPower, ih, timesPower]

theorem timesPower_zero_right (n : Nat) : timesPower n 0 = 0 := by
  induction n with
  | zero => rfl
  | succ n ih => rw [timesPower, ih]; rfl

/-- The reduction happens where bit 7 leaves the byte, so doubling is a shift and a conditional sum. -/
theorem nextPower_eq : ∀ v < 256, nextPower v = 2 * v ^^^ if v.testBit 7 then 0x11D else 0 := by decide +kernel

theorem nextPower_lt : ∀ v < 256, nextPower v < 256 := by decide +kernel

theorem timesPower_lt {v : Nat} (hv : v < 256) (n : Nat) : timesPower n v < 256 := by
  induction n with
  | zero => exact hv
  | succ n ih => exact nextPower_lt _ ih

/-- Doubling is linear. -/
theorem nextPower_xor {a b : Nat} (ha : a < 256) (hb : b < 256) :
    nextPower (a ^^^ b) = nextPower a ^^^ nextPower b := by
  have hdouble : 2 * (a ^^^ b) = 2 * a ^^^ 2 * b := by
    simpa [Nat.shiftLeft_eq, Nat.mul_comm] using Nat.shiftLeft_xor_distrib (a := a) (b := b) (i := 1)
  have hreduce (x y : Bool) :
      (if x ^^ y then 0x11D else 0) = (if x then 0x11D else 0) ^^^ (if y then 0x11D else 0) := by
    cases x <;> cases y <;> rfl
  rw [nextPower_eq a ha, nextPower_eq b hb, nextPower_eq _ (Nat.xor_lt_two_pow (n := 8) ha hb), Nat.testBit_xor,
    hdouble, hreduce]
  ac_rfl

/-! ### Sums in the field (R171) -/

theorem xorSum_succ (n : Nat) (f : Nat → Nat) : xorSum (n + 1) f = xorSum n f ^^^ f n := by
  simp only [xorSum, List.range_succ, List.foldl_append, List.foldl_cons, List.foldl_nil]

theorem xorSum_zero (n : Nat) : xorSum n (fun _ => 0) = 0 := by
  induction n with
  | zero => rfl
  | succ n ih => rw [xorSum_succ, ih, Nat.xor_zero]

theorem xorSum_xor (n : Nat) (f g : Nat → Nat) : xorSum n (fun i => f i ^^^ g i) = xorSum n f ^^^ xorSum n g := by
  induction n with
  | zero => exact (Nat.xor_self 0).symm
  | succ n ih =>
    simp only [xorSum_succ, ih]
    ac_rfl

theorem xorSum_lt {n : Nat} {f : Nat → Nat} (hf : ∀ i, f i < 256) : xorSum n f < 256 := by
  induction n with
  | zero => exact Nat.zero_lt_succ _
  | succ n ih => rw [xorSum_succ]; exact Nat.xor_lt_two_pow (n := 8) ih (hf n)

theorem nextPower_xorSum {f : Nat → Nat} (hf : ∀ i, f i < 256) (n : Nat) :
    nextPower (xorSum n f) = xorSum n (fun i => nextPower (f i)) := by
  induction n with
  | zero => rfl
  | succ n ih => rw [xorSum_succ, xorSum_succ, nextPower_xor (xorSum_lt hf) (hf n), ih]

/-! ### The carry-less product (R174) -/

theorem carrylessMul_eq_xorSum (a b : Nat) :
    carrylessMul a b = xorSum 8 fun i => if b.testBit i then timesPower i a else 0 := by
  have hstep : (fun acc i => if b.testBit i then acc ^^^ timesPower i a else acc) =
      fun acc i => acc ^^^ if b.testBit i then timesPower i a else 0 := by
    funext acc i
    split
    · rfl
    · rw [Nat.xor_zero]
  rw [carrylessMul, hstep, xorSum]

theorem carrylessMul_zero_left (b : Nat) : carrylessMul 0 b = 0 := by
  simp only [carrylessMul_eq_xorSum, timesPower_zero_right, ite_self, xorSum_zero]

theorem carrylessMul_zero_right (a : Nat) : carrylessMul a 0 = 0 := rfl

theorem carrylessMul_one_left : ∀ b < 256, carrylessMul 1 b = b := by decide +kernel

theorem carrylessMul_xor_right (a b c : Nat) :
    carrylessMul a (b ^^^ c) = carrylessMul a b ^^^ carrylessMul a c := by
  simp only [carrylessMul_eq_xorSum, ← xorSum_xor]
  congr 1
  funext i
  rw [Nat.testBit_xor]
  cases b.testBit i <;> cases c.testBit i <;> simp

theorem carrylessMul_nextPower {a : Nat} (ha : a < 256) (b : Nat) :
    carrylessMul (nextPower a) b = nextPower (carrylessMul a b) := by
  have hterm (i : Nat) : (if b.testBit i then timesPower i a else 0) < 256 := by
    split
    · exact timesPower_lt ha i
    · exact Nat.zero_lt_succ _
  have hzero : nextPower 0 = 0 := rfl
  simp only [carrylessMul_eq_xorSum, nextPower_xorSum hterm, apply_ite nextPower, timesPower_nextPower, hzero]

/-- A power of `t` can be taken out of the first factor. -/
theorem carrylessMul_timesPower {a : Nat} (ha : a < 256) (n b : Nat) :
    carrylessMul (timesPower n a) b = timesPower n (carrylessMul a b) := by
  induction n with
  | zero => rfl
  | succ n ih => rw [timesPower, carrylessMul_nextPower (timesPower_lt ha n), ih, timesPower]

theorem carrylessMul_alphaPow {b : Nat} (hb : b < 256) (n : Nat) : carrylessMul (alphaPow n) b = timesPower n b := by
  rw [alphaPow, carrylessMul_timesPower (by decide), carrylessMul_one_left b hb]

/-! ### The powers of alpha (R36, R172) -/

theorem alphaPow_lt (n : Nat) : alphaPow n < 256 := timesPower_lt (by decide) n

theorem alphaPow_order : alphaPow 255 = 1 := by decide +kernel

theorem alphaPow_add_order (n : Nat) : alphaPow (n + 255) = alphaPow n := by
  rw [alphaPow, timesPower_add, ← alphaPow, alphaPow_order, ← alphaPow]

/-- R172: exponents count modulo 255. -/
theorem alphaPow_mod (n : Nat) : alphaPow (n % 255) = alphaPow n := by
  have hperiods (r k : Nat) : alphaPow (r + 255 * k) = alphaPow r := by
    induction k with
    | zero => rfl
    | succ k ih => rw [Nat.mul_succ, ← Nat.add_assoc, alphaPow_add_order, ih]
  rw [← hperiods (n % 255) (n / 255), Nat.mod_add_div]

theorem powersFrom_eq_map (k v : Nat) : powersFrom k v = (List.range k).map (timesPower · v) := by
  induction k generalizing v with
  | zero => rfl
  | succ k ih =>
    simp only [powersFrom, ih, List.range_succ_eq_map, List.map_cons, List.map_map, timesPower_nextPower]
    rfl

/-- The last entry of the table, written on its own by R391, is one more power. -/
theorem builtExp_eq_map : builtExp = (List.range 256).map fun n => BitVec.ofNat 8 (alphaPow n) := by
  have hpowers : powersFrom 255 1 ++ [1] = (List.range 256).map alphaPow := by
    rw [powersFrom_eq_map, List.range_succ (n := 255), List.map_append, List.map_singleton, alphaPow_order]
    rfl
  rw [builtExp, hpowers, List.map_map]
  rfl

theorem toNat_gfExp (e : Expo) : (gfExp Rom.standard e).toNat = alphaPow e.idx.toNat := by
  have hin : e.idx.toNat < 256 := e.idx.isLt
  rw [gfExp, standard_gfExp_eq_built, builtExp_eq_map, List.getD_eq_getElem?_getD, List.getElem?_map,
    List.getElem?_range hin, Option.map_some, Option.getD_some, BitVec.toNat_ofNat]
  exact Nat.mod_eq_of_lt (alphaPow_lt _)

theorem toNat_gfPow (n : Nat) : (gfPow Rom.standard n).toNat = alphaPow n := by
  have hmod : n % 255 < 2 ^ 8 := by omega
  rw [gfPow, toNat_gfExp, expoOf, BitVec.toNat_ofNat, Nat.mod_eq_of_lt hmod, alphaPow_mod]

/-- R173: every non-zero element is a power of alpha, and the table has its exponent. -/
theorem exists_gfLog_alphaPow {v : Byte} (hv : v ≠ 0) :
    ∃ e, gfLog Rom.standard v = some e ∧ e.idx.toNat ≤ 254 ∧ alphaPow e.idx.toNat = v.toNat := by
  obtain ⟨e, hlog, hle, hexp⟩ := exists_gfLog_of_ne_zero hv
  exact ⟨e, hlog, hle, by rw [← toNat_gfExp, hexp]⟩

/-! ### The product of the tables is the carry-less product (R174) -/

theorem zero_gfMul (rom : Rom) (b : Byte) : gfMul rom 0 b = 0 := if_pos (.inl rfl)

theorem gfMul_zero (rom : Rom) (a : Byte) : gfMul rom a 0 = 0 := if_pos (.inr rfl)

theorem gfMul_of_gfLog {rom : Rom} {a b : Byte} {e f : Expo} (ha : a ≠ 0) (hb : b ≠ 0)
    (hloga : gfLog rom a = some e) (hlogb : gfLog rom b = some f) : gfMul rom a b = gfPow rom (e.idx.toNat + f.idx.toNat) := by
  rw [gfMul, if_neg (not_or.mpr ⟨ha, hb⟩), hloga, hlogb]
  rfl

theorem toNat_gfMul (a b : Byte) : (gfMul Rom.standard a b).toNat = carrylessMul a.toNat b.toNat := by
  by_cases ha : a = 0
  · rw [ha, zero_gfMul]
    exact (carrylessMul_zero_left _).symm
  by_cases hb : b = 0
  · rw [hb, gfMul_zero]
    exact (carrylessMul_zero_right _).symm
  obtain ⟨e, hloga, -, hea⟩ := exists_gfLog_alphaPow ha
  obtain ⟨f, hlogb, -, hfb⟩ := exists_gfLog_alphaPow hb
  calc (gfMul Rom.standard a b).toNat
      = alphaPow (e.idx.toNat + f.idx.toNat) := by rw [gfMul_of_gfLog ha hb hloga hlogb, toNat_gfPow]
    _ = timesPower e.idx.toNat b.toNat := by rw [alphaPow, timesPower_add, ← alphaPow, hfb]
    _ = carrylessMul a.toNat b.toNat := by rw [← hea, carrylessMul_alphaPow b.isLt]

/-- Settles O30: the tables hold the powers of alpha and their exponents, and the product they give is the carry-less
one. -/
theorem fieldCommands : Obligations.FieldCommands := by
  intro s a b hlive hrom
  have hexp : opOf (.gfExp a) s = .done s (alphaPow a.toNat) := by rw [opOf, opGfExp, hrom, toNat_gfExp]
  have hmul : opOf (.gfMul a b) s = .done s (carrylessMul a.toNat b.toNat) := by rw [opOf, opGfMul, hrom, toNat_gfMul]
  have hadd : opOf (.gfAdd a b) s = .done s (a.toNat ^^^ b.toNat) := by rw [opOf, opGfAdd, gfAdd, BitVec.toNat_xor]
  refine ⟨decode_encode (.gfExp a), decode_encode (.gfLog a), decode_encode (.gfMul a b), decode_encode (.gfAdd a b),
    exec_of_done (.inr hlive) hexp, fun ha => ?_, exec_of_raised hlive rfl, exec_of_done (.inr hlive) hmul,
    exec_of_done (.inr hlive) hadd⟩
  obtain ⟨e, hlog, hle, hpow⟩ := exists_gfLog_alphaPow ha
  have hop : opOf (.gfLog a) s = .done s e.idx.toNat := by rw [opOf, opGfLog, if_neg ha, hrom, hlog]
  exact ⟨e.idx.toNat, hle, hpow, exec_of_done (.inr hlive) hop⟩

/-! ### The laws of the field (R171, R175) -/

theorem gfMul_comm (rom : Rom) (a b : Byte) : gfMul rom a b = gfMul rom b a := by
  simp only [gfMul, or_comm, Nat.add_comm]

theorem gfMul_one (a : Byte) : gfMul Rom.standard a 1 = a := by
  rw [gfMul_comm]
  apply BitVec.eq_of_toNat_eq
  rw [toNat_gfMul]
  exact carrylessMul_one_left _ a.isLt

theorem gfMul_assoc (a b c : Byte) :
    gfMul Rom.standard (gfMul Rom.standard a b) c = gfMul Rom.standard a (gfMul Rom.standard b c) := by
  by_cases ha : a = 0
  · rw [ha, zero_gfMul, zero_gfMul, zero_gfMul]
  · obtain ⟨e, -, -, hpow⟩ := exists_gfLog_alphaPow ha
    apply BitVec.eq_of_toNat_eq
    simp only [toNat_gfMul, ← hpow]
    rw [carrylessMul_alphaPow b.isLt, carrylessMul_timesPower b.isLt, ← toNat_gfMul,
      carrylessMul_alphaPow (BitVec.isLt _)]

theorem gfMul_gfAdd (a b c : Byte) :
    gfMul Rom.standard a (gfAdd b c) = gfAdd (gfMul Rom.standard a b) (gfMul Rom.standard a c) := by
  apply BitVec.eq_of_toNat_eq
  simp only [gfAdd, BitVec.toNat_xor, toNat_gfMul, carrylessMul_xor_right]

theorem gfMul_gfInv {a : Byte} (ha : a ≠ 0) : gfMul Rom.standard a (gfInv Rom.standard a) = 1 := by
  obtain ⟨e, hlog, hle, hpow⟩ := exists_gfLog_alphaPow ha
  have hinv : gfInv Rom.standard a = gfPow Rom.standard (255 - e.idx.toNat) := by rw [gfInv, hlog]; rfl
  apply BitVec.eq_of_toNat_eq
  calc (gfMul Rom.standard a (gfInv Rom.standard a)).toNat
      = carrylessMul (alphaPow e.idx.toNat) (alphaPow (255 - e.idx.toNat)) := by
        rw [toNat_gfMul, hinv, toNat_gfPow, hpow]
    _ = alphaPow (e.idx.toNat + (255 - e.idx.toNat)) := by
        rw [carrylessMul_alphaPow (alphaPow_lt _), alphaPow, ← timesPower_add, ← alphaPow]
    _ = 1 := by rw [Nat.add_sub_cancel' (by omega), alphaPow_order]

/-- Settles O31: the product has the laws of the carry-less product of powers of `t`. -/
theorem fieldLaws : Obligations.FieldLaws :=
  ⟨gfMul_comm _, gfMul_assoc, gfMul_gfAdd,
    fun a => ⟨gfMul_one a, gfMul_zero _ a, BitVec.xor_self, BitVec.xor_zero⟩, fun _ => gfMul_gfInv⟩

end Sys2Proof.Machine

/-! ## Polynomials -/

namespace Sys2Proof.Machine

open Sys2Proof.Safety

/-! ### The polynomial registers (R30, R197 to R200, R205) -/

/-- A register number of the list is a register operand, and reads and writes that element of the list. -/
theorem exists_regOperand {s : State} {a : Byte} {p : Poly} (h : (polyRegs s)[a.toNat]? = some p) :
    ∃ r, regOperand a = some r ∧ s.readPoly r = p ∧ ∀ c, polyRegs (s.writePoly r c) = (polyRegs s).set a.toNat c := by
  unfold regOperand
  generalize a.toNat = n at h
  match n with
  | 0 => exact ⟨.pa, rfl, Option.some.inj h, fun _ => rfl⟩
  | 1 => exact ⟨.pb, rfl, Option.some.inj h, fun _ => rfl⟩
  | 2 => exact ⟨.pq, rfl, Option.some.inj h, fun _ => rfl⟩
  | 3 => exact ⟨.pr, rfl, Option.some.inj h, fun _ => rfl⟩
  | _ + 4 => cases h

/-- An operation that writes one register and completes. -/
theorem exec_of_writePoly {i : Instr} {s : State} {r : PolyReg} {c : Poly} {n : Nat} {l : List Poly} (hlive : live s)
    (hop : opOf i s = .done (s.writePoly r c) n) (hregs : polyRegs (s.writePoly r c) = l) :
    ∃ t, exec i s = .next t ∧ t = { s with poly := t.poly, resp := ok n } ∧ polyRegs t = l :=
  ⟨_, exec_of_done (.inr hlive) hop, rfl, hregs⟩

theorem exec_of_offending {i : Instr} {s : State} {v : Nat} (hlive : live s) (hstage : stageOk s i = true)
    (hout : offending i = some v) : exec i s = .next (trapped .rangeError v s) :=
  exec_of_raised hlive (opOf_of_offending hstage hout)

/-- Settles O32: a register number is an element of the list of registers or is out of range, and P.PUSH and P.RD check the
length of the register after its number. -/
theorem polyRegisterCommands : Obligations.PolyRegisterCommands := by
  intro s a b hlive
  refine ⟨decode_encode (.pClr a), decode_encode (.pPush a b), decode_encode (.pRd a b), decode_encode (.pLen a),
    decode_encode (.pMov a b), fun p hp => ?_, fun ha => ?_⟩
  · obtain ⟨r, hr, rfl, hwrite⟩ := exists_regOperand hp
    have hclr : opOf (.pClr a) s = .done (s.writePoly r []) 0 := by rw [opOf, opPClr, hr]
    have hpush : opOf (.pPush a b) s =
        if ¬ (s.readPoly r).length < 256 then rangeError 256 s
        else .done (s.writePoly r (s.readPoly r ++ [b])) ((s.readPoly r).length + 1) := by
      rw [opOf, opPPush, hr]; rfl
    have hrd : opOf (.pRd a b) s =
        if ¬ b.toNat < (s.readPoly r).length then rangeError b.toNat s
        else .done s ((s.readPoly r).getD b.toNat 0).toNat := by
      rw [opOf, opPRd, hr]
    have hlen : opOf (.pLen a) s = .done s (s.readPoly r).length := by rw [opOf, opPLen, hr]
    refine ⟨exec_of_writePoly hlive hclr (hwrite _), fun hroom => ?_, fun hfull => ?_, fun v hv => ?_, fun hout => ?_,
      exec_of_done (.inr hlive) hlen, fun q hq => ?_, fun hb => ?_⟩
    · exact exec_of_writePoly hlive (hpush.trans (if_neg (not_not_intro hroom))) (hwrite _)
    · exact exec_of_raised hlive (hpush.trans (if_pos (Nat.not_lt.mpr hfull)))
    · obtain ⟨hin, rfl⟩ := List.getElem?_eq_some_iff.mp hv
      rw [if_neg (not_not_intro hin), ← List.getElem_eq_getD (h := hin)] at hrd
      exact exec_of_done (.inr hlive) hrd
    · exact exec_of_raised hlive (hrd.trans (if_pos (Nat.not_lt.mpr hout)))
    · obtain ⟨src, hsrc, rfl, -⟩ := exists_regOperand hq
      have hmov : opOf (.pMov a b) s = .done (s.writePoly r (s.readPoly src)) (s.readPoly src).length := by
        simp only [opOf, opPMov, hr, hsrc]
      exact exec_of_writePoly hlive hmov (hwrite _)
    · have ha : a.toNat ≤ 3 :=
        Classical.not_not.mp fun hout => Option.some_ne_none r (hr.symm.trans (regOperand_eq_none.mpr hout))
      exact exec_of_offending hlive rfl ((if_neg (not_not_intro ha)).trans (if_neg (Nat.not_le.mpr hb)))
  · have hout : ¬ a.toNat ≤ 3 := Nat.not_le.mpr ha
    exact ⟨exec_of_offending hlive rfl (if_neg hout), exec_of_offending hlive rfl (if_neg hout),
      exec_of_offending hlive rfl (if_neg hout), exec_of_offending hlive rfl (if_neg hout),
      exec_of_offending hlive rfl (if_pos hout)⟩

/-! ### Sums and coefficients -/

theorem zero_gfAdd (a : Byte) : gfAdd 0 a = a := BitVec.zero_xor

theorem gfAdd_zero (a : Byte) : gfAdd a 0 = a := BitVec.xor_zero

theorem gfAdd_self (a : Byte) : gfAdd a a = 0 := BitVec.xor_self

theorem gfAdd_gfMul (a b c : Byte) :
    gfMul Rom.standard (gfAdd a b) c = gfAdd (gfMul Rom.standard a c) (gfMul Rom.standard b c) := by
  rw [gfMul_comm, gfMul_gfAdd, gfMul_comm _ c, gfMul_comm _ c]

theorem one_gfMul (a : Byte) : gfMul Rom.standard 1 a = a := by
  rw [gfMul_comm, gfMul_one]

theorem getD_map_gfMul (rom : Rom) (c : Byte) (p : Poly) (j : Nat) :
    (p.map (gfMul rom c)).getD j 0 = gfMul rom c (p.getD j 0) := by
  rw [List.getD_eq_getElem?_getD, List.getD_eq_getElem?_getD, List.getElem?_map]
  cases p[j]? with
  | none => exact (gfMul_zero rom c).symm
  | some x => rfl

theorem getD_of_length_le {p : Poly} {j : Nat} (h : p.length ≤ j) : p.getD j 0 = 0 := by
  rw [List.getD_eq_getElem?_getD, List.getElem?_eq_none h, Option.getD_none]

theorem getD_append_left {p : Poly} {j : Nat} (h : j < p.length) (q : Poly) : (p ++ q).getD j 0 = p.getD j 0 := by
  rw [List.getD_eq_getElem?_getD, List.getElem?_append_left h, List.getD_eq_getElem?_getD]

theorem getD_append_singleton (p : Poly) (c : Byte) : (p ++ [c]).getD p.length 0 = c := by
  rw [List.getD_eq_getElem?_getD, List.getElem?_concat_length, Option.getD_some]

theorem xorSum_congr {n : Nat} {f g : Nat → Nat} (h : ∀ i < n, f i = g i) : xorSum n f = xorSum n g := by
  induction n with
  | zero => rfl
  | succ n ih => rw [xorSum_succ, xorSum_succ, ih fun i hi => h i (by omega), h n (by omega)]

theorem xorSum_succ_left (n : Nat) (f : Nat → Nat) : xorSum (n + 1) f = f 0 ^^^ xorSum n (fun i => f (i + 1)) := by
  induction n with
  | zero => exact Nat.xor_comm _ _
  | succ n ih => rw [xorSum_succ, ih, xorSum_succ, Nat.xor_assoc]

theorem xorSum_reverse (n : Nat) (f : Nat → Nat) : xorSum n f = xorSum n (fun i => f (n - 1 - i)) := by
  induction n with
  | zero => rfl
  | succ n ih =>
    rw [xorSum_succ, xorSum_succ_left, ih, Nat.xor_comm]
    exact congrArg (f n ^^^ ·) (xorSum_congr fun i _ => congrArg f (by omega))

/-- Terms that are zero may be left out at the end. -/
theorem xorSum_of_zero {m n : Nat} {f : Nat → Nat} (hmn : m ≤ n) (hf : ∀ i, m ≤ i → f i = 0) :
    xorSum n f = xorSum m f := by
  induction hmn with
  | refl => rfl
  | step hn ih => rw [xorSum_succ, ih, hf _ hn, Nat.xor_zero]

theorem productCoeff_nil (q : Poly) (k : Nat) : productCoeff [] q k = 0 := by
  simp only [productCoeff, List.getD_nil]
  exact (xorSum_congr fun i _ => carrylessMul_zero_left _).trans (xorSum_zero _)

theorem productCoeff_cons_zero (c : Byte) (p q : Poly) :
    productCoeff (c :: p) q 0 = (gfMul Rom.standard c (q.getD 0 0)).toNat := by
  rw [toNat_gfMul]
  exact Nat.zero_xor _

theorem productCoeff_cons_succ (c : Byte) (p q : Poly) (k : Nat) :
    productCoeff (c :: p) q (k + 1) = (gfMul Rom.standard c (q.getD (k + 1) 0)).toNat ^^^ productCoeff p q k := by
  simp only [productCoeff, xorSum_succ_left (k + 1), toNat_gfMul, List.getD_cons_zero, List.getD_cons_succ,
    Nat.sub_zero, Nat.add_sub_add_right]

theorem productCoeff_comm (p q : Poly) (k : Nat) : productCoeff p q k = productCoeff q p k := by
  rw [productCoeff, productCoeff, xorSum_reverse]
  refine xorSum_congr fun i hi => ?_
  have hback : k - (k + 1 - 1 - i) = i := by omega
  rw [hback, Nat.add_sub_cancel, ← toNat_gfMul, gfMul_comm, toNat_gfMul]

/-! ### The product (R192, R201) -/

/-- What position `j` of the second factor adds to coefficient `k` of a product. -/
def productTerm (p q : Poly) (k j : Nat) : Nat :=
  if j ≤ k then carrylessMul (q.getD j 0).toNat (p.getD (k - j) 0).toNat else 0

/-- The machine leaves out the positions that have no partner in the first factor; their term is zero. -/
theorem xor_productTerm (p q : Poly) (k : Nat) (acc : Byte) (j : Nat) : acc.toNat ^^^ productTerm p q k j =
    (if j ≤ k ∧ k - j < p.length then gfAdd acc (gfMul Rom.standard (p.getD (k - j) 0) (q.getD j 0)) else acc).toNat := by
  unfold productTerm
  by_cases hj : j ≤ k
  · by_cases hp : k - j < p.length
    · rw [if_pos hj, if_pos ⟨hj, hp⟩, gfAdd, BitVec.toNat_xor, gfMul_comm, toNat_gfMul]
    · rw [if_pos hj, if_neg (mt And.right hp), getD_of_length_le (Nat.not_lt.mp hp)]
      exact Nat.xor_zero _
  · rw [if_neg hj, if_neg (mt And.left hj), Nat.xor_zero]

theorem toNat_mulCoeff (p q : Poly) (k : Nat) : (mulCoeff Rom.standard p q k).toNat = productCoeff q p k := by
  have hbeyond (j : Nat) (hj : q.length ≤ j) : productTerm p q k j = 0 := by
    rw [productTerm, getD_of_length_le hj]
    split
    · exact carrylessMul_zero_left _
    · rfl
  have hsum : xorSum q.length (productTerm p q k) = xorSum (k + 1) (productTerm p q k) := by
    obtain hle | hle := Nat.le_total q.length (k + 1)
    · exact (xorSum_of_zero hle hbeyond).symm
    · exact xorSum_of_zero hle fun j hj => if_neg (by omega)
  calc (mulCoeff Rom.standard p q k).toNat
      = xorSum q.length (productTerm p q k) := (List.foldl_hom BitVec.toNat (xor_productTerm p q k)).symm
    _ = productCoeff q p k := hsum.trans (xorSum_congr fun j hj => if_pos (by omega))

theorem getD_polyMul (rom : Rom) {p q : Poly} (hp : p ≠ []) (hq : q ≠ []) {k : Nat} (hk : k < p.length + q.length - 1) :
    (polyMul rom p q).getD k 0 = mulCoeff rom p q k := by
  have hlen : ¬ (p.length = 0 ∨ q.length = 0) := by simp [hp, hq]
  rw [polyMul, if_neg hlen, List.getD_eq_getElem?_getD, List.getElem?_map, List.getElem?_range hk]
  rfl

theorem polyMul_of_nil (rom : Rom) {p q : Poly} (h : p = [] ∨ q = []) : polyMul rom p q = [] :=
  if_pos (h.imp List.length_eq_zero_iff.mpr List.length_eq_zero_iff.mpr)

/-- Settles O33: the length is checked where both factors have coefficients, and an empty factor gives the empty
product. -/
theorem pMulIsTheProduct : Obligations.PMulIsTheProduct := by
  intro s hlive hrom
  have hop : opOf .pMul s =
      if s.poly.pa.length ≠ 0 ∧ s.poly.pb.length ≠ 0 ∧ ¬ s.poly.pa.length + s.poly.pb.length - 1 ≤ 256 then
        rangeError (s.poly.pa.length + s.poly.pb.length - 1) s
      else .done (s.writePoly .pr (polyMul Rom.standard s.poly.pa s.poly.pb))
        (polyMul Rom.standard s.poly.pa s.poly.pb).length := by
    rw [← hrom]; rfl
  refine ⟨decode_encode .pMul, fun ha hb hfit => ?_, fun hempty => ?_, fun ha hb hlong => ?_⟩
  · have hlen := length_polyMul Rom.standard (mt List.length_eq_zero_iff.mp ha) (mt List.length_eq_zero_iff.mp hb)
    rw [if_neg fun h => h.2.2 hfit] at hop
    refine ⟨polyMul Rom.standard s.poly.pa s.poly.pb, exec_of_done (.inr hlive) hop, hlen, fun k hk => ?_⟩
    rw [getD_polyMul _ ha hb (hlen ▸ hk), toNat_mulCoeff, productCoeff_comm]
  · have hlen : ¬ (s.poly.pa.length ≠ 0 ∧ s.poly.pb.length ≠ 0 ∧ ¬ s.poly.pa.length + s.poly.pb.length - 1 ≤ 256) :=
      fun h => hempty.elim (mt List.length_eq_zero_iff.mpr h.1) (mt List.length_eq_zero_iff.mpr h.2.1)
    rw [if_neg hlen, polyMul_of_nil _ hempty] at hop
    exact exec_of_done (.inr hlive) hop
  · exact exec_of_raised hlive (hop.trans (if_pos ⟨mt List.length_eq_zero_iff.mp ha, mt List.length_eq_zero_iff.mp hb,
      Nat.not_le.mpr hlong⟩))

/-! ### Division (R193, R202) -/

theorem xorInto_nil (w : Poly) : xorInto w [] = w := by cases w <;> rfl

theorem getD_xorInto {w p : Poly} (h : p.length ≤ w.length) (j : Nat) :
    (xorInto w p).getD j 0 = gfAdd (w.getD j 0) (p.getD j 0) := by
  induction w generalizing p j with
  | nil =>
    obtain rfl := List.length_eq_zero_iff.mp (Nat.le_zero.mp h)
    exact (gfAdd_self _).symm
  | cons x w ih => cases p with
    | nil => exact (gfAdd_zero _).symm
    | cons y p => cases j with
      | zero => rfl
      | succ j => exact ih (Nat.le_of_succ_le_succ h) j

theorem xorInto_zeros (w : Poly) (m : Nat) : xorInto w (zeroCoeffs m) = w := by
  induction m generalizing w with
  | zero => exact xorInto_nil w
  | succ m ih => cases w with
    | nil => rfl
    | cons x w => rw [zeroCoeffs, List.replicate_succ, xorInto, gfAdd_zero, ← zeroCoeffs, ih]

/-- `w` with `c` times `p` added from its first position on: what a step of the division makes of the coefficients after
the lead (R193). -/
def addMultiple (rom : Rom) (c : Byte) (p w : Poly) : Poly := xorInto w (p.map (gfMul rom c))

theorem length_addMultiple (rom : Rom) (c : Byte) (p w : Poly) : (addMultiple rom c p w).length = w.length :=
  length_xorInto ..

theorem zero_addMultiple (rom : Rom) (p w : Poly) : addMultiple rom 0 p w = w := by
  have hzeros : p.map (gfMul rom 0) = zeroCoeffs p.length :=
    (List.map_congr_left fun x _ => zero_gfMul rom x).trans (List.map_const' ..)
  rw [addMultiple, hzeros, xorInto_zeros]

theorem getD_addMultiple (rom : Rom) (c : Byte) {p w : Poly} (h : p.length ≤ w.length) (j : Nat) :
    (addMultiple rom c p w).getD j 0 = gfAdd (w.getD j 0) (gfMul rom c (p.getD j 0)) := by
  rw [addMultiple, getD_xorInto (by rwa [List.length_map]), getD_map_gfMul]

/-- A step of the division, whether its quotient coefficient is zero or not. -/
theorem divSteps_cons (rom : Rom) (tail : Poly) (inv : Byte) (k : Nat) (lead : Byte) (w : Poly) :
    divSteps rom tail inv (k + 1) (lead :: w) =
      (gfMul rom lead inv :: (divSteps rom tail inv k (addMultiple rom (gfMul rom lead inv) tail w)).1,
        (divSteps rom tail inv k (addMultiple rom (gfMul rom lead inv) tail w)).2) := by
  by_cases hc : gfMul rom lead inv = 0
  · simp only [divSteps, hc, ne_eq, not_true, if_false, zero_addMultiple]
  · simp only [divSteps, hc, ne_eq, not_false_iff, if_true, addMultiple]

theorem length_divSteps_quotient (rom : Rom) (tail : Poly) (inv : Byte) {k : Nat} {w : Poly} (h : k ≤ w.length) :
    (divSteps rom tail inv k w).1.length = k := by
  induction k generalizing w with
  | zero => rfl
  | succ k ih => cases w with
    | nil => cases h
    | cons lead w =>
      rw [divSteps_cons, List.length_cons, ih (by rw [length_addMultiple]; exact Nat.le_of_succ_le_succ h)]

/-- The quotient coefficient of a step times the lead coefficient is the coefficient the step takes away. -/
theorem gfMul_quotient {lead d₀ inv : Byte} (hinv : gfMul Rom.standard d₀ inv = 1) :
    gfMul Rom.standard (gfMul Rom.standard lead inv) d₀ = lead := by
  rw [gfMul_assoc, gfMul_comm _ inv, hinv, gfMul_one]

/-- R193: what is divided is quotient times divisor plus remainder, at every position. -/
theorem getD_eq_divSteps {d₀ inv : Byte} {tail : Poly} (hinv : gfMul Rom.standard d₀ inv = 1) {k : Nat} {w : Poly}
    (hw : k + tail.length ≤ w.length) (j : Nat) :
    (w.getD j 0).toNat = productCoeff (divSteps Rom.standard tail inv k w).1 (d₀ :: tail) j ^^^
      if j < k then 0 else ((divSteps Rom.standard tail inv k w).2.getD (j - k) 0).toNat := by
  induction k generalizing w j with
  | zero => exact (Nat.zero_xor _ ▸ congrArg (· ^^^ _) (productCoeff_nil _ j)).symm
  | succ k ih => cases w with
    | nil => rw [List.length_nil] at hw; omega
    | cons lead w =>
      rw [List.length_cons] at hw
      rw [divSteps_cons]
      cases j with
      | zero =>
        rw [productCoeff_cons_zero, if_pos (Nat.succ_pos k), Nat.xor_zero]
        exact congrArg BitVec.toNat (gfMul_quotient hinv).symm
      | succ j =>
        have hrest := ih (w := addMultiple Rom.standard (gfMul Rom.standard lead inv) tail w)
          (by rw [length_addMultiple]; omega) j
        rw [getD_addMultiple _ _ (by omega), gfAdd, BitVec.toNat_xor] at hrest
        simp only [productCoeff_cons_succ, List.getD_cons_succ, Nat.add_lt_add_iff_right, Nat.add_sub_add_right,
          Nat.xor_assoc, ← hrest]
        rw [Nat.xor_comm (w.getD j 0).toNat, ← Nat.xor_assoc, Nat.xor_self, Nat.zero_xor]

theorem polyDivmod_of_short (rom : Rom) {p d : Poly} (h : p.length < d.length) :
    polyDivmod rom p d = ([], zeroCoeffs (d.length - 1 - p.length) ++ p) := if_pos h

theorem polyDivmod_of_long (rom : Rom) {p tail : Poly} {d₀ : Byte} (h : (d₀ :: tail).length ≤ p.length) :
    polyDivmod rom p (d₀ :: tail) = divSteps rom tail (gfInv rom d₀) (p.length - tail.length) p := by
  have hsteps : p.length - (d₀ :: tail).length + 1 = p.length - tail.length := by rw [List.length_cons] at h ⊢; omega
  rw [polyDivmod, if_neg (Nat.not_lt.mpr h), hsteps]
  rfl

theorem length_polyDivmod_quotient (rom : Rom) {p d : Poly} (hd : d ≠ []) :
    (polyDivmod rom p d).1.length = p.length + 1 - d.length := by
  obtain ⟨d₀, tail, rfl⟩ := List.exists_cons_of_ne_nil hd
  obtain hshort | hlong := Nat.lt_or_ge p.length (d₀ :: tail).length
  · rw [polyDivmod_of_short rom hshort]
    exact (Nat.sub_eq_zero_of_le hshort).symm
  · rw [polyDivmod_of_long rom hlong, length_divSteps_quotient _ _ _ (Nat.sub_le ..), List.length_cons,
      Nat.add_sub_add_right]

/-- Settles O34: the identity of the division holds after every step, and a short dividend takes none. -/
theorem pDivIsLongDivision : Obligations.PDivIsLongDivision := by
  intro s hlive hrom
  refine ⟨decode_encode .pDiv, fun hb hlead => ?_, fun hb => ?_, fun hb hlead => ?_⟩
  · have hpos : 1 ≤ s.poly.pb.length := List.length_pos_iff.mpr hb
    have hop : opOf .pDiv s =
        .done ((s.writePoly .pq (polyDivmod Rom.standard s.poly.pa s.poly.pb).1).writePoly .pr
          (polyDivmod Rom.standard s.poly.pa s.poly.pb).2) (polyDivmod Rom.standard s.poly.pa s.poly.pb).1.length :=
      hrom ▸ (if_neg (not_not_intro hpos)).trans (if_neg hlead)
    refine ⟨(polyDivmod Rom.standard s.poly.pa s.poly.pb).1, (polyDivmod Rom.standard s.poly.pa s.poly.pb).2,
      exec_of_done (.inr hlive) hop, length_polyDivmod_quotient _ hb, (length_polyDivmod _ hpos).2,
      fun hshort => ?_, fun hlong k hk => ?_⟩
    · rw [polyDivmod_of_short _ hshort]
      rfl
    · obtain ⟨d₀, tail, hd⟩ := List.exists_cons_of_ne_nil hb
      rw [hd] at hlead hlong ⊢
      rw [polyDivmod_of_long _ hlong, length_divSteps_quotient _ _ _ (Nat.sub_le ..)]
      rw [List.length_cons] at hlong
      exact getD_eq_divSteps (gfMul_gfInv hlead) (by omega) k
  · exact exec_of_raised hlive (if_pos (by simp [State.readPoly, PolyFile.read, hb]))
  · have hpos : 1 ≤ s.poly.pb.length := List.length_pos_iff.mpr hb
    exact exec_of_raised hlive ((if_neg (not_not_intro hpos)).trans (if_pos hlead))

/-! ### Values (R195, R196, R204) -/

theorem carrylessMul_alphaPow_right {a : Nat} (ha : a < 256) (n : Nat) : carrylessMul a (alphaPow n) = timesPower n a := by
  have hcomm := toNat_gfMul (BitVec.ofNat 8 a) (BitVec.ofNat 8 (alphaPow n))
  rw [gfMul_comm, toNat_gfMul] at hcomm
  simp only [BitVec.toNat_ofNat, Nat.mod_eq_of_lt (show a < 2 ^ 8 from ha),
    Nat.mod_eq_of_lt (show alphaPow n < 2 ^ 8 from alphaPow_lt n)] at hcomm
  rw [← hcomm, carrylessMul_alphaPow ha]

theorem timesPower_xorSum {f : Nat → Nat} (hf : ∀ i, f i < 256) (m n : Nat) :
    timesPower m (xorSum n f) = xorSum n (fun i => timesPower m (f i)) := by
  induction m with
  | zero => rfl
  | succ m ih => rw [timesPower, ih, nextPower_xorSum fun i => timesPower_lt (hf i) m]; rfl

theorem valueAt_eq (p : Poly) (i : Nat) :
    valueAt p i = xorSum p.length fun j => timesPower (i * (p.length - 1 - j)) (p.getD j 0).toNat :=
  xorSum_congr fun _ _ => carrylessMul_alphaPow_right (BitVec.isLt _) _

/-- A coefficient at the end moves the others up one power. -/
theorem valueAt_append (p : Poly) (c : Byte) (i : Nat) : valueAt (p ++ [c]) i = timesPower i (valueAt p i) ^^^ c.toNat := by
  rw [valueAt_eq, valueAt_eq, timesPower_xorSum fun j => timesPower_lt (BitVec.isLt _) _, List.length_append,
    List.length_singleton, xorSum_succ, getD_append_singleton, Nat.add_sub_cancel, Nat.sub_self]
  refine congrArg (· ^^^ c.toNat) (xorSum_congr fun j hj => ?_)
  have hpower : i * (p.length - j) = i + i * (p.length - 1 - j) := by
    rw [Nat.add_comm, ← Nat.mul_succ]
    congr 1
    omega
  rw [getD_append_left hj, hpower, timesPower_add]

/-- R195: Horner's rule gives the value term by term. -/
theorem toNat_polyEval (p : Poly) (i : Nat) : (polyEval Rom.standard p (gfPow Rom.standard i)).toNat = valueAt p i := by
  rw [← List.reverse_reverse p]
  induction p.reverse with
  | nil => rfl
  | cons c q ih =>
    rw [List.reverse_cons]
    generalize q.reverse = p at ih ⊢
    have hstep : polyEval Rom.standard (p ++ [c]) (gfPow Rom.standard i) =
        gfAdd (gfMul Rom.standard (polyEval Rom.standard p (gfPow Rom.standard i)) (gfPow Rom.standard i)) c :=
      List.foldl_append ..
    rw [hstep, gfAdd, BitVec.toNat_xor, toNat_gfMul, ih, toNat_gfPow, valueAt_append,
      carrylessMul_alphaPow_right (ih ▸ BitVec.isLt _)]

theorem map_toNat_syndromes (p : Poly) (n : Nat) :
    (syndromes Rom.standard p n).map BitVec.toNat = (List.range n).map (valueAt p) := by
  rw [syndromes, List.map_map]
  exact List.map_congr_left fun i _ => toNat_polyEval p i

theorem allZero_eq (l : List Byte) : allZero l = if ∀ v ∈ l, v = 0 then 1 else 0 := by
  simp only [allZero, List.all_eq_true, beq_iff_eq]

/-- Settles O36: each syndrome is a value by Horner's rule. -/
theorem pSynEvaluates : Obligations.PSynEvaluates := by
  intro s a hlive hrom
  have hop : opOf (.pSyn a) s = .done (s.writePoly .pr (syndromes Rom.standard s.poly.pa a.toNat))
      (if ∀ v ∈ syndromes Rom.standard s.poly.pa a.toNat, v = 0 then 1 else 0) := by
    rw [← allZero_eq, ← hrom]; rfl
  exact ⟨decode_encode (.pSyn a), syndromes Rom.standard s.poly.pa a.toNat, exec_of_done (.inr hlive) hop,
    map_toNat_syndromes _ _⟩

/-! ### Horner's rule is linear (R171, R195) -/

/-- Horner's rule from an accumulated value on. -/
def horner (v acc : Byte) (p : Poly) : Byte := p.foldl (fun acc c => gfAdd (gfMul Rom.standard acc v) c) acc

theorem polyEval_eq_horner (p : Poly) (v : Byte) : polyEval Rom.standard p v = horner v 0 p := rfl

theorem horner_cons (v acc c : Byte) (p : Poly) :
    horner v acc (c :: p) = horner v (gfAdd (gfMul Rom.standard acc v) c) p := rfl

theorem horner_append (v acc : Byte) (p q : Poly) : horner v acc (p ++ q) = horner v (horner v acc p) q :=
  List.foldl_append ..

theorem polyEval_cons (c : Byte) (p : Poly) (v : Byte) : polyEval Rom.standard (c :: p) v = horner v c p := by
  rw [polyEval_eq_horner, horner_cons, zero_gfMul, zero_gfAdd]

theorem horner_zeros (v : Byte) (m : Nat) : horner v 0 (zeroCoeffs m) = 0 := by
  induction m with
  | zero => rfl
  | succ m ih => rw [zeroCoeffs, List.replicate_succ, horner_cons, zero_gfMul, gfAdd_zero]; exact ih

theorem gfAdd_horner_step (v a b x y : Byte) :
    gfAdd (gfMul Rom.standard (gfAdd a b) v) (gfAdd x y) =
      gfAdd (gfAdd (gfMul Rom.standard a v) x) (gfAdd (gfMul Rom.standard b v) y) := by
  rw [gfAdd_gfMul]
  simp only [gfAdd]
  ac_rfl

/-- The value of a sum is the sum of the values, the shorter polynomial filled up with zeros at its end. -/
theorem horner_xorInto {w p : Poly} (h : p.length ≤ w.length) (v a b : Byte) :
    horner v (gfAdd a b) (xorInto w p) = gfAdd (horner v a w) (horner v b (p ++ zeroCoeffs (w.length - p.length))) := by
  induction w generalizing p a b with
  | nil =>
    obtain rfl := List.length_eq_zero_iff.mp (Nat.le_zero.mp h)
    rfl
  | cons x w ih => cases p with
    | nil =>
      have hrest := ih (p := []) (Nat.zero_le _) (gfAdd (gfMul Rom.standard a v) x) (gfAdd (gfMul Rom.standard b v) 0)
      rw [← gfAdd_horner_step, gfAdd_zero, xorInto_nil] at hrest
      exact hrest
    | cons y p =>
      have hrest := ih (p := p) (Nat.le_of_succ_le_succ h) (gfAdd (gfMul Rom.standard a v) x)
        (gfAdd (gfMul Rom.standard b v) y)
      rw [← gfAdd_horner_step] at hrest
      simpa only [xorInto, horner_cons, List.cons_append, List.length_cons, Nat.add_sub_add_right] using hrest

theorem horner_map_gfMul (c v b : Byte) (p : Poly) :
    horner v (gfMul Rom.standard c b) (p.map (gfMul Rom.standard c)) = gfMul Rom.standard c (horner v b p) := by
  induction p generalizing b with
  | nil => rfl
  | cons x p ih => rw [List.map_cons, horner_cons, horner_cons, gfMul_assoc, ← gfMul_gfAdd, ih]

theorem polyEval_map_gfMul (c v : Byte) (p : Poly) :
    polyEval Rom.standard (p.map (gfMul Rom.standard c)) v = gfMul Rom.standard c (polyEval Rom.standard p v) := by
  have h := horner_map_gfMul c v 0 p
  rwa [gfMul_zero] at h

/-! ### The generator polynomial (R194, R203) -/

/-- The product with a linear factor `t + x` is the sum of the polynomial moved up one power and its multiple. -/
theorem polyMul_linear {p : Poly} (hp : p ≠ []) (x : Byte) :
    polyMul Rom.standard p [1, x] = xorInto (p ++ [0]) (0 :: p.map (gfMul Rom.standard x)) := by
  have hlen : (polyMul Rom.standard p [1, x]).length = p.length + 1 :=
    length_polyMul _ (mt List.length_eq_zero_iff.mp hp) (by simp)
  refine List.ext_getElem (by rw [hlen, length_xorInto, List.length_append, List.length_singleton]) fun k hk _ => ?_
  have hmoved : (p ++ [0]).getD k 0 = p.getD k 0 := by
    obtain hin | hout := Nat.lt_or_ge k p.length
    · exact getD_append_left hin _
    · obtain rfl : k = p.length := by omega
      rw [getD_append_singleton, getD_of_length_le (Nat.le_refl _)]
  have hin : k < p.length + 1 := hlen ▸ hk
  rw [List.getElem_eq_getD 0, List.getElem_eq_getD 0, getD_polyMul _ hp (by simp) hin, getD_xorInto (by simp), hmoved]
  apply BitVec.eq_of_toNat_eq
  rw [toNat_mulCoeff, gfAdd, BitVec.toNat_xor]
  cases k with
  | zero => rw [productCoeff_cons_zero, one_gfMul]; exact (Nat.xor_zero _).symm
  | succ k =>
    have hmultiple : productCoeff [x] p k = (gfMul Rom.standard x (p.getD k 0)).toNat := by
      cases k with
      | zero => exact productCoeff_cons_zero ..
      | succ k => rw [productCoeff_cons_succ, productCoeff_nil, Nat.xor_zero]
    rw [productCoeff_cons_succ, one_gfMul, hmultiple, List.getD_cons_succ, getD_map_gfMul]

theorem polyEval_xorInto {w p : Poly} (h : p.length = w.length) (v : Byte) :
    polyEval Rom.standard (xorInto w p) v = gfAdd (polyEval Rom.standard w v) (polyEval Rom.standard p v) := by
  have hsum := horner_xorInto (Nat.le_of_eq h) v 0 0
  rwa [gfAdd_zero, h, Nat.sub_self, zeroCoeffs, List.replicate_zero, List.append_nil] at hsum

theorem polyEval_polyMul_linear {p : Poly} (hp : p ≠ []) (x v : Byte) :
    polyEval Rom.standard (polyMul Rom.standard p [1, x]) v =
      gfMul Rom.standard (polyEval Rom.standard p v) (gfAdd v x) := by
  have hmoved : polyEval Rom.standard (p ++ [0]) v = gfMul Rom.standard (polyEval Rom.standard p v) v := by
    rw [polyEval_eq_horner, horner_append, horner_cons, gfAdd_zero]; rfl
  rw [polyMul_linear hp, polyEval_xorInto (by simp), hmoved, polyEval_cons, ← polyEval_eq_horner, polyEval_map_gfMul,
    gfMul_gfAdd, gfMul_comm _ _ x]

theorem genPoly_succ (rom : Rom) (n : Nat) : genPoly rom (n + 1) = polyMul rom (genPoly rom n) [1, gfPow rom n] := by
  simp only [genPoly, List.range_succ, List.foldl_append, List.foldl_cons, List.foldl_nil]

theorem genPoly_ne_nil (rom : Rom) (n : Nat) : genPoly rom n ≠ [] := by
  rw [← List.length_pos_iff, length_genPoly]
  exact Nat.succ_pos n

/-- Each factor adds its root and keeps those before. -/
theorem polyEval_genPoly {i n : Nat} (h : i < n) :
    polyEval Rom.standard (genPoly Rom.standard n) (gfPow Rom.standard i) = 0 := by
  induction n with
  | zero => omega
  | succ n ih =>
    rw [genPoly_succ, polyEval_polyMul_linear (genPoly_ne_nil _ _)]
    obtain hlt | rfl := Nat.lt_succ_iff_lt_or_eq.mp h
    · rw [ih hlt, zero_gfMul]
    · rw [gfAdd_self, gfMul_zero]

theorem genPoly_monic (n : Nat) : ∃ tail, genPoly Rom.standard n = 1 :: tail := by
  induction n with
  | zero => exact ⟨[], rfl⟩
  | succ n ih =>
    obtain ⟨tail, htail⟩ := ih
    rw [genPoly_succ, polyMul_linear (genPoly_ne_nil _ _), htail]
    exact ⟨_, rfl⟩

/-- Settles O35: the generator is a product of monic linear factors, one for each root. -/
theorem pGenBuildsGenerator : Obligations.PGenBuildsGenerator := by
  intro s a hlive hrom
  have hop : opOf (.pGen a) s = .done (s.writePoly .pr (genPoly Rom.standard a.toNat)) (a.toNat + 1) := hrom ▸ rfl
  obtain ⟨tail, htail⟩ := genPoly_monic a.toNat
  refine ⟨decode_encode (.pGen a), genPoly Rom.standard a.toNat, exec_of_done (.inr hlive) hop, length_genPoly .., ?_,
    fun i hi => ?_⟩
  · rw [htail]; rfl
  · rw [← toNat_polyEval, polyEval_genPoly hi]; rfl

/-! ### A codeword has the roots of the generator (R222, R226) -/

/-- Taking a multiple of a divisor away changes no value at a root of the divisor. -/
theorem polyEval_addMultiple {d₀ c v : Byte} {tail w : Poly} (hroot : polyEval Rom.standard (d₀ :: tail) v = 0)
    (hw : tail.length ≤ w.length) :
    polyEval Rom.standard (addMultiple Rom.standard c tail w) v = horner v (gfMul Rom.standard c d₀) w := by
  have hlen : (tail.map (gfMul Rom.standard c)).length ≤ w.length := by rwa [List.length_map]
  have hsum := horner_xorInto hlen v (gfMul Rom.standard c d₀) (gfMul Rom.standard c d₀)
  rw [polyEval_cons] at hroot
  rwa [gfAdd_self, horner_append, horner_map_gfMul, hroot, gfMul_zero, horner_zeros, gfAdd_zero] at hsum

theorem polyEval_divSteps {d₀ inv v : Byte} {tail : Poly} (hinv : gfMul Rom.standard d₀ inv = 1)
    (hroot : polyEval Rom.standard (d₀ :: tail) v = 0) {k : Nat} {w : Poly} (hw : k + tail.length ≤ w.length) :
    polyEval Rom.standard (divSteps Rom.standard tail inv k w).2 v = polyEval Rom.standard w v := by
  induction k generalizing w with
  | zero => rfl
  | succ k ih => cases w with
    | nil => rw [List.length_nil] at hw; omega
    | cons lead w =>
      rw [List.length_cons] at hw
      rw [divSteps_cons, ih (by rw [length_addMultiple]; omega), polyEval_addMultiple hroot (by omega),
        gfMul_quotient hinv, polyEval_cons]

/-- The remainder has the value of the dividend at every root of the divisor. -/
theorem polyEval_remainder {p d : Poly} {v : Byte} (hlead : d.headD 0 ≠ 0) (hroot : polyEval Rom.standard d v = 0) :
    polyEval Rom.standard (polyDivmod Rom.standard p d).2 v = polyEval Rom.standard p v := by
  cases d with
  | nil => exact absurd rfl hlead
  | cons d₀ tail =>
    obtain hshort | hlong := Nat.lt_or_ge p.length (d₀ :: tail).length
    · rw [polyDivmod_of_short _ hshort, polyEval_eq_horner, horner_append, horner_zeros]; rfl
    · rw [polyDivmod_of_long _ hlong]
      rw [List.length_cons] at hlong
      exact polyEval_divSteps (gfMul_gfInv hlead) hroot (by omega)

theorem xorInto_zeroCoeffs_left (p : Poly) : xorInto (zeroCoeffs p.length) p = p := by
  induction p with
  | nil => rfl
  | cons x p ih => rw [List.length_cons, zeroCoeffs, List.replicate_succ, xorInto, zero_gfAdd, ← zeroCoeffs, ih]

theorem polyEval_append (p q : Poly) (v : Byte) : polyEval Rom.standard (p ++ q) v =
    gfAdd (polyEval Rom.standard (p ++ zeroCoeffs q.length) v) (polyEval Rom.standard q v) := by
  have hlen : (zeroCoeffs q.length).length = q.length := List.length_replicate ..
  have hsum := horner_xorInto (Nat.le_of_eq hlen.symm) v (horner v 0 p) 0
  have hnone : zeroCoeffs 0 = [] := rfl
  rw [xorInto_zeroCoeffs_left, gfAdd_zero, hlen, Nat.sub_self, hnone, List.append_nil, ← horner_append,
    ← horner_append] at hsum
  exact hsum

/-- R222: the data followed by its redundancy is a multiple of the generator. -/
theorem polyEval_codeword (data : List Byte) {i n : Nat} (h : i < n) :
    polyEval Rom.standard (data ++ rsEcc Rom.standard data n) (gfPow Rom.standard i) = 0 := by
  have hlead : (genPoly Rom.standard n).headD 0 ≠ 0 := by
    obtain ⟨tail, htail⟩ := genPoly_monic n
    rw [htail]
    exact (by decide : (1 : Byte) ≠ 0)
  have hvalue : polyEval Rom.standard (rsEcc Rom.standard data n) (gfPow Rom.standard i) =
      polyEval Rom.standard (data ++ zeroCoeffs n) (gfPow Rom.standard i) :=
    polyEval_remainder hlead (polyEval_genPoly h)
  rw [polyEval_append, length_rsEcc, hvalue, gfAdd_self]

theorem syndromes_codeword (data : List Byte) (n : Nat) :
    syndromes Rom.standard (data ++ rsEcc Rom.standard data n) n = zeroCoeffs n := by
  rw [syndromes, List.map_congr_left fun i hi => polyEval_codeword data (List.mem_range.mp hi), List.map_const']
  rw [List.length_range]
  rfl

theorem allZero_zeroCoeffs (n : Nat) : allZero (zeroCoeffs n) = 1 :=
  (allZero_eq _).trans (if_pos fun _ hv => List.eq_of_mem_replicate hv)

/-- RS.SYN on a block whose redundancy is that of its data (R226). -/
theorem exec_rsSyn_of_codeword {s : State} {a : Byte} (hlive : live s) (hrom : s.rom = Rom.standard)
    (hds : 3 ≤ s.ds.code) (ha : a.toNat < s.nblk)
    (hecc : s.redundancy a.toNat = some (rsEcc Rom.standard (s.block a.toNat) s.row.ec)) :
    exec (.rsSyn a) s = .next { s with poly := { s.poly with pr := List.replicate s.row.ec 0 }, resp := ok 1 } := by
  have hop : opOf (.rsSyn a) s = .done (s.writePoly .pr (zeroCoeffs s.row.ec)) 1 := by
    rw [opOf, opRsSyn, if_neg (not_not_intro hds), if_neg (not_not_intro ha), hecc]
    simp only [hrom, syndromes_codeword, allZero_zeroCoeffs]
  exact exec_of_done (.inr hlive) hop

theorem redundancy_setRedundancy {s : State} {b : Nat} (hb : b < s.e.length) (ws : List Byte) :
    (s.setRedundancy b ws).redundancy b = some ws := by
  rw [State.redundancy_eq, State.setRedundancy, List.getD_eq_getElem?_getD, List.getElem?_set_self hb]
  rfl

/-- Settles O39: RS.ECC stores the remainder beside the data, so RS.SYN evaluates a multiple of the generator at its
roots. -/
theorem rsSynAfterEccIsZero : Obligations.RsSynAfterEccIsZero := by
  intro s t a hlive hinv hstage ha hexec
  have hstage := eccStage_iff.mpr hstage
  have hop : opOf (.rsEcc a) s = .done (s.eccBlock a.toNat) (s.eccBlock a.toNat).evcnt :=
    (if_neg (not_not_intro hstage)).trans (if_neg (not_not_intro ha))
  obtain rfl := Host.Outcome.next.inj (hexec.symm.trans (exec_of_done (.inr hlive) hop))
  obtain ⟨n, d, heq, -, hd⟩ := eccBlock_marks hinv hstage ha
  obtain ⟨-, -, -, hcode⟩ := DataStage.bounds_of_ecc (hd.imp And.left And.left)
  have hmark : a.toNat < s.e.length := by
    obtain ⟨hnblk, hlen⟩ := hinv.blockCount (code_of_eccStage hstage)
    omega
  rw [heq]
  exact exec_rsSyn_of_codeword hlive hinv.rom hcode ha (hinv.rom ▸ redundancy_setRedundancy hmark _)

end Sys2Proof.Machine

/-! ## The Reed-Solomon unit -/

namespace Sys2Proof.Machine

open Sys2Proof.Safety

/-! ### Splitting into blocks (R221, R223) -/

theorem blockLen_of_lt {row : TierRow} {b : Nat} (h : b < row.g1b) : blockLen row b = row.g1w := if_pos h

theorem blockLen_of_le {row : TierRow} {b : Nat} (h : row.g1b ≤ b) : blockLen row b = row.g2w :=
  if_neg (Nat.not_lt.mpr h)

/-- A block begins where the blocks before it end (R221). -/
theorem blockOffset_eq_sumBelow (row : TierRow) (b : Nat) : blockOffset row b = sumBelow b (blockLen row) := by
  unfold blockOffset
  split
  next hfirst => exact (sumBelow_const fun i hi => blockLen_of_lt (Nat.lt_trans hi hfirst)).symm
  next hsecond =>
    obtain ⟨k, rfl⟩ := Nat.exists_eq_add_of_le (Nat.not_lt.mp hsecond)
    have first : sumBelow row.g1b (blockLen row) = row.g1b * row.g1w := sumBelow_const fun _ => blockLen_of_lt
    have second : sumBelow k (fun i => blockLen row (row.g1b + i)) = k * row.g2w :=
      sumBelow_const fun i _ => blockLen_of_le (Nat.le_add_right row.g1b i)
    rw [sumBelow_split, first, second, Nat.add_sub_cancel_left]

/-- Slices that follow one another make the whole sequence. -/
theorem flatten_slices {α : Type} (f : Nat → α) (len : Nat → Nat) (n : Nat) :
    ((List.range n).map fun b => (List.range (len b)).map fun i => f (sumBelow b len + i)).flatten =
      (List.range (sumBelow n len)).map f := by
  induction n with
  | zero => rfl
  | succ n ih =>
    rw [List.range_succ, List.map_append, List.flatten_append, ih, sumBelow, List.range_add, List.map_append,
      List.map_map, List.map_singleton, List.flatten_singleton]
    rfl

theorem flatten_splitBlocks {row : TierRow} {cw : List Byte}
    (h : row.g1b * row.g1w + row.g2b * row.g2w = cw.length) : (splitBlocks row cw).flatten = cw := by
  simp only [splitBlocks, blockOffset_eq_sumBelow]
  rw [flatten_slices (cw.getD · 0), sum_blockLen, h]
  refine List.ext_getElem (by rw [List.length_map, List.length_range]) fun i _ hi => ?_
  rw [List.getElem_map, List.getElem_range, ← List.getElem_eq_getD (h := hi)]

/-- The blocks of group 1, then those of group 2 (R221). -/
theorem map_blockLen (row : TierRow) : (List.range row.blocks).map (blockLen row) =
    List.replicate row.g1b row.g1w ++ List.replicate row.g2b row.g2w := by
  have first : (List.range row.g1b).map (blockLen row) = List.replicate row.g1b row.g1w := by
    rw [List.map_congr_left fun b hb => blockLen_of_lt (List.mem_range.mp hb), List.map_const', List.length_range]
  have second : (List.range row.g2b).map (fun b => blockLen row (row.g1b + b)) = List.replicate row.g2b row.g2w := by
    rw [List.map_congr_left fun b _ => blockLen_of_le (Nat.le_add_right row.g1b b), List.map_const', List.length_range]
  rw [TierRow.blocks, List.range_add, List.map_append, List.map_map, first]
  exact congrArg (List.replicate row.g1b row.g1w ++ ·) second

theorem TierRow.consistent_iff (row : TierRow) :
    row.consistent = true ↔ row.g1b * row.g1w + row.g2b * row.g2w = row.td := beq_iff_eq

/-- Settles O37: the blocks are slices that follow one another, and by the sanity check they end with the stream. -/
theorem rsSplitSlicesTheStream : Obligations.RsSplitSlicesTheStream := by
  intro s hlive
  refine ⟨decode_encode .rsSplit, fun hds hsum => ?_, fun hds hsum => ?_, fun hds => exec_of_raised hlive (if_pos hds)⟩
  · have hop : opOf .rsSplit s = .done _ s.row.blocks :=
      (if_neg (not_not_intro hds)).trans (if_neg (not_not_intro (s.row.consistent_iff.mpr hsum)))
    refine ⟨splitBlocks s.row (dataCodewords s.bits s.row.td), exec_of_done (.inr hlive) hop, ?_, ?_⟩
    · rw [length_splitBlocks, map_blockLen]
    · exact flatten_splitBlocks (by rw [hsum, dataCodewords, List.length_map, List.length_range])
  · exact exec_of_raised hlive ((if_neg (not_not_intro hds)).trans (if_pos (mt s.row.consistent_iff.mp hsum)))

/-! ### The loop of R222 is the division -/

theorem getD_drop (p : Poly) (n i : Nat) : (p.drop n).getD i 0 = p.getD (n + i) 0 := by
  rw [List.getD_eq_getElem?_getD, List.getElem?_drop, List.getD_eq_getElem?_getD]

/-- The first `m` rounds of the inner loop R222 writes out, at position `k` of the working copy. -/
def eccInnerLoop (rom : Rom) (c : Byte) (g : Poly) (k m : Nat) (w : Poly) : Poly :=
  (List.range m).foldl (fun acc j => acc.set (k + j) (acc.getD (k + j) 0 ^^^ gfMul rom c (g.getD j 0))) w

theorem eccLoopStep_eq_innerLoop (rom : Rom) (g w : Poly) (k : Nat) :
    eccLoopStep rom g w k = if w.getD k 0 = 0 then w else eccInnerLoop rom (w.getD k 0) g k g.length w := rfl

theorem eccInnerLoop_succ (rom : Rom) (c : Byte) (g : Poly) (k m : Nat) (w : Poly) :
    eccInnerLoop rom c g k (m + 1) w = (eccInnerLoop rom c g k m w).set (k + m)
      (gfAdd ((eccInnerLoop rom c g k m w).getD (k + m) 0) (gfMul rom c (g.getD m 0))) := by
  rw [eccInnerLoop, List.range_succ, List.foldl_append]
  rfl

theorem length_eccInnerLoop (rom : Rom) (c : Byte) (g : Poly) (k m : Nat) (w : Poly) :
    (eccInnerLoop rom c g k m w).length = w.length := by
  induction m with
  | zero => rfl
  | succ m ih => rw [eccInnerLoop_succ, List.length_set, ih]

theorem length_eccLoopStep (rom : Rom) (g w : Poly) (k : Nat) : (eccLoopStep rom g w k).length = w.length := by
  rw [eccLoopStep_eq_innerLoop]
  split
  · rfl
  · exact length_eccInnerLoop ..

/-- The inner loop adds a multiple of the first `m` coefficients of the generator from position `k` on. -/
theorem getD_eccInnerLoop (rom : Rom) (c : Byte) (g : Poly) {k m : Nat} {w : Poly} (h : k + m ≤ w.length) (i : Nat) :
    (eccInnerLoop rom c g k m w).getD (k + i) 0 =
      if i < m then gfAdd (w.getD (k + i) 0) (gfMul rom c (g.getD i 0)) else w.getD (k + i) 0 := by
  induction m with
  | zero => rfl
  | succ m ih =>
    rw [eccInnerLoop_succ, List.getD_eq_getElem?_getD, List.getElem?_set, length_eccInnerLoop]
    by_cases hi : m = i
    · subst hi
      rw [if_pos rfl, if_pos (by omega), if_pos (Nat.lt_succ_self m), ih (by omega), if_neg (Nat.lt_irrefl m)]
      rfl
    · rw [if_neg (by omega), ← List.getD_eq_getElem?_getD, ih (by omega)]
      simp only [Nat.lt_succ_iff_lt_or_eq, Ne.symm hi, or_false]

/-- Behind its position, a step of the loop R222 writes out is a step of the division by the generator (R193). -/
theorem drop_eccLoopStep {k : Nat} {tail w : Poly} (h : k + (tail.length + 1) ≤ w.length) :
    (eccLoopStep Rom.standard (1 :: tail) w k).drop (k + 1) =
      addMultiple Rom.standard (w.getD k 0) tail (w.drop (k + 1)) := by
  have htail : tail.length ≤ (w.drop (k + 1)).length := by rw [List.length_drop]; omega
  rw [eccLoopStep_eq_innerLoop, List.length_cons]
  split
  next hzero => rw [hzero, zero_addMultiple]
  next =>
    refine List.ext_getElem ?_ fun i _ _ => ?_
    · rw [length_addMultiple, List.length_drop, List.length_drop, length_eccInnerLoop]
    · rw [List.getElem_eq_getD 0, List.getElem_eq_getD 0, getD_addMultiple _ _ htail, getD_drop, getD_drop,
        Nat.add_assoc, Nat.add_comm 1 i, getD_eccInnerLoop _ _ _ h, List.getD_cons_succ]
      split
      · rfl
      next hbeyond => rw [getD_of_length_le (p := tail) (by omega), gfMul_zero, gfAdd_zero]

theorem gfMul_gfInv_one (a : Byte) : gfMul Rom.standard a (gfInv Rom.standard 1) = a := by
  have h := gfMul_quotient (lead := a) (gfMul_gfInv (by decide : (1 : Byte) ≠ 0))
  rwa [gfMul_one] at h

/-- The loop R222 writes out leaves what the division leaves, from its last position on. -/
theorem drop_eccLoop {tail : Poly} {m k : Nat} {w : Poly} (h : k + m + tail.length ≤ w.length) :
    ((List.range' k m).foldl (eccLoopStep Rom.standard (1 :: tail)) w).drop (k + m) =
      (divSteps Rom.standard tail (gfInv Rom.standard 1) m (w.drop k)).2 := by
  induction m generalizing k w with
  | zero => rfl
  | succ m ih =>
    have hlen := length_eccLoopStep Rom.standard (1 :: tail) w k
    rw [List.drop_eq_getElem_cons (show k < w.length by omega), List.getElem_eq_getD 0, divSteps_cons, gfMul_gfInv_one,
      ← drop_eccLoopStep (by omega), ← ih (by omega), List.range'_succ, List.foldl_cons, Nat.add_right_comm,
      Nat.add_assoc]

/-- R222: the loop written out computes the remainder by the generator. -/
theorem eccLoop_eq_rsEcc (data : List Byte) (n : Nat) : eccLoop Rom.standard data n = rsEcc Rom.standard data n := by
  obtain ⟨tail, htail⟩ := genPoly_monic n
  have hn : tail.length = n := Nat.succ.inj ((congrArg List.length htail).symm.trans (length_genPoly ..))
  have hlen : (data ++ zeroCoeffs n).length = data.length + n := by
    rw [List.length_append, zeroCoeffs, List.length_replicate]
  rw [eccLoop, rsEcc, htail]
  cases data with
  | nil =>
    have hshort : ([] ++ zeroCoeffs n).length < ((1 : Byte) :: tail).length := by
      rw [hlen, List.length_cons, List.length_nil]
      omega
    have hnone : ((1 : Byte) :: tail).length - 1 - ([] ++ zeroCoeffs n).length = 0 := by
      rw [hlen, List.length_cons, List.length_nil]
      omega
    rw [polyDivmod_of_short _ hshort, hnone]
    rfl
  | cons lead rest =>
    have hlong : ((1 : Byte) :: tail).length ≤ (lead :: rest ++ zeroCoeffs n).length := by
      rw [hlen, List.length_cons, List.length_cons]
      omega
    have hloop := drop_eccLoop (k := 0) (tail := tail) (m := (lead :: rest).length) (w := lead :: rest ++ zeroCoeffs n)
      (by omega)
    rw [polyDivmod_of_long _ hlong, hlen, hn, Nat.add_sub_cancel, List.range_eq_range']
    rwa [Nat.zero_add] at hloop

/-! ### Redundancy of one block (R224) -/

/-- What R224 leaves, written out. -/
theorem eccBlock_eq (s : State) (b : Nat) : s.eccBlock b = { s with
    e := s.e.set b (some (rsEcc s.rom (s.block b) s.row.ec))
    evcnt := if s.ev b then s.evcnt else s.evcnt + 1
    ds := if (if s.ev b then s.evcnt else s.evcnt + 1) = s.nblk then .eccDone else s.ds } := by
  obtain ⟨n, d, heq, hn, hd⟩ := eccBlock_count s b
  have hcount : n = if s.ev b then s.evcnt else s.evcnt + 1 := by
    rw [hn]
    split <;> rfl
  have hstage : d = if n = s.nblk then .eccDone else s.ds := by
    obtain ⟨hall, rfl⟩ | ⟨hopen, rfl⟩ := hd
    · exact (if_pos hall).symm
    · exact (if_neg hopen).symm
  rw [heq, hstage, hcount]
  rfl

theorem opRsEccBlock_done {s : State} {b : Nat} (hds : s.eccStage = true) (hb : b < s.nblk) :
    opRsEccBlock b s = .done (s.eccBlock b) (s.eccBlock b).evcnt :=
  (if_neg (not_not_intro hds)).trans (if_neg (not_not_intro hb))

/-- Settles O38: the loop of R222 is the remainder the machine stores. -/
theorem rsEccComputesRedundancy : Obligations.RsEccComputesRedundancy := by
  intro s a hlive hinv
  refine ⟨decode_encode (.rsEcc a), fun hstage ha => ⟨?_, ?_⟩, fun hstage ha => ?_, fun hsplit hdone => ?_⟩
  · have hop : opOf (.rsEcc a) s = .done (s.eccBlock a.toNat) (s.eccBlock a.toNat).evcnt :=
      opRsEccBlock_done (eccStage_iff.mpr hstage) ha
    rw [exec_of_done (.inr hlive) hop, eccBlock_eq, hinv.rom, eccLoop_eq_rsEcc]
    rfl
  · rw [hinv.rom, eccLoop_eq_rsEcc, length_rsEcc]
  · exact exec_of_raised hlive
      ((if_neg (not_not_intro (eccStage_iff.mpr hstage))).trans (if_pos (Nat.not_lt.mpr ha)))
  · exact exec_of_raised hlive (if_pos (mt eccStage_iff.mp (not_or.mpr ⟨hsplit, hdone⟩)))

/-! ### Reads of a block (R226, R228, R229) -/

theorem readData_of_getElem? {s : State} {b i : Nat} {v : Byte} (h : (s.d.getD b [])[i]? = some v) :
    i < s.dlen b ∧ s.readData b i = v := by
  obtain ⟨hi, rfl⟩ := List.getElem?_eq_some_iff.mp h
  exact ⟨hi, (List.getElem_eq_getD (h := hi) 0).symm⟩

theorem lt_length_of_lt_dlen {s : State} {b i : Nat} (h : i < s.dlen b) : b < s.d.length := by
  refine Nat.lt_of_not_le fun hout => ?_
  rw [State.dlen, State.block, List.getD_eq_getElem?_getD, List.getElem?_eq_none hout] at h
  exact Nat.not_lt_zero i h

theorem redundancy_of_getElem? {s : State} {b : Nat} {ecc : List Byte} (h : s.e[b]? = some (some ecc)) :
    s.redundancy b = some ecc := by
  rw [State.redundancy_eq, List.getD_eq_getElem?_getD, h, Option.getD_some]

theorem readRedundancy_of_getElem? {s : State} {b j : Nat} {ecc : List Byte} {v : Byte}
    (h : s.e[b]? = some (some ecc)) (hj : ecc[j]? = some v) : s.readRedundancy b j = v := by
  rw [State.readRedundancy, redundancy_of_getElem? h, Option.getD_some, List.getD_eq_getElem?_getD, hj,
    Option.getD_some]

theorem opRsSyn_of_redundancy {s : State} {a : Byte} {ecc : List Byte} (hds : 3 ≤ s.ds.code) (ha : a.toNat < s.nblk)
    (h : s.redundancy a.toNat = some ecc) :
    opRsSyn a s = .done (s.writePoly .pr (syndromes s.rom (s.block a.toNat ++ ecc) s.row.ec))
      (allZero (syndromes s.rom (s.block a.toNat ++ ecc) s.row.ec)) := by
  rw [opRsSyn, if_neg (not_not_intro hds), if_neg (not_not_intro ha), h]

theorem opRsSyn_of_unmarked {s : State} {a : Byte} (hds : 3 ≤ s.ds.code) (ha : a.toNat < s.nblk)
    (h : s.ev a.toNat = false) : opRsSyn a s = seqError s := by
  have hnone : s.redundancy a.toNat = none := Option.not_isSome_iff_eq_none.mp (Bool.eq_false_iff.mp h)
  rw [opRsSyn, if_neg (not_not_intro hds), if_neg (not_not_intro ha), hnone]

/-- Settles O40: each command checks the stage, then the block number, then the mark or the index. -/
theorem rsBlockReads : Obligations.RsBlockReads := by
  intro s a b hlive hrom
  refine ⟨decode_encode (.rsSyn a), decode_encode (.rsRdd a b), decode_encode (.rsRde a b), fun hds ha => ?_,
    fun hds ha => ?_, fun hds => ?_⟩
  · have hds' := not_not_intro hds
    have hrdd : opOf (.rsRdd a b) s =
        if ¬ b.toNat < s.dlen a.toNat then rangeError b.toNat s else .done s (s.readData a.toNat b.toNat).toNat :=
      (if_neg hds').trans (if_neg (not_not_intro ha))
    have hrde : opOf (.rsRde a b) s =
        if ¬ s.ev a.toNat then seqError s else if ¬ b.toNat < s.row.ec then rangeError b.toNat s
        else .done s (s.readRedundancy a.toNat b.toNat).toNat :=
      (if_neg hds').trans (if_neg (not_not_intro ha))
    refine ⟨fun v hv => ?_, fun hout => ?_, fun ecc hecc => ?_, fun hev => ⟨?_, ?_⟩⟩
    · obtain ⟨hin, rfl⟩ := readData_of_getElem? hv
      exact exec_of_done (.inr hlive) (hrdd.trans (if_neg (not_not_intro hin)))
    · exact exec_of_raised hlive (hrdd.trans (if_pos (Nat.not_lt.mpr hout)))
    · have hsyn : opOf (.rsSyn a) s = _ := opRsSyn_of_redundancy hds ha (redundancy_of_getElem? hecc)
      rw [hrom, allZero_eq] at hsyn
      rw [if_neg (not_not_intro ((s.ev_iff _).mpr ⟨ecc, hecc⟩))] at hrde
      refine ⟨⟨syndromes Rom.standard (s.block a.toNat ++ ecc) s.row.ec, exec_of_done (.inr hlive) hsyn,
        map_toNat_syndromes _ _⟩, fun hb v hv => ?_, fun hb => ?_⟩
      · rw [if_neg (not_not_intro hb), readRedundancy_of_getElem? hecc hv] at hrde
        exact exec_of_done (.inr hlive) hrde
      · exact exec_of_raised hlive (hrde.trans (if_pos (Nat.not_lt.mpr hb)))
    · exact exec_of_raised hlive (opRsSyn_of_unmarked hds ha hev)
    · exact exec_of_raised hlive (hrde.trans (if_pos (Bool.eq_false_iff.mp hev)))
  · have hds' := not_not_intro hds
    have ha' := Nat.not_lt.mpr ha
    exact ⟨exec_of_raised hlive ((if_neg hds').trans (if_pos ha')),
      exec_of_raised hlive ((if_neg hds').trans (if_pos ha')),
      exec_of_raised hlive ((if_neg hds').trans (if_pos ha'))⟩
  · have hds' := Nat.not_le.mpr hds
    exact ⟨exec_of_raised hlive (if_pos hds'), exec_of_raised hlive (if_pos hds'), exec_of_raised hlive (if_pos hds')⟩

/-! ### Every block in turn (R225) -/

/-- Each given block in turn, as R225 does it for all of them. -/
def State.eccBlocks (s : State) (blocks : List Nat) : State := blocks.foldl State.eccBlock s

theorem eccBlocks_range_succ (s : State) (n : Nat) :
    s.eccBlocks (List.range (n + 1)) = (s.eccBlocks (List.range n)).eccBlock n := by
  rw [State.eccBlocks, List.range_succ, List.foldl_append]
  rfl

theorem eccBlock_flt (s : State) (b : Nat) : (s.eccBlock b).flt = s.flt := by rw [eccBlock_eq]

theorem eccBlock_nblk (s : State) (b : Nat) : (s.eccBlock b).nblk = s.nblk := by rw [eccBlock_eq]

theorem eccStage_eccBlock {s : State} (h : s.eccStage = true) (b : Nat) : (s.eccBlock b).eccStage = true := by
  obtain ⟨n, d, heq, hd⟩ := eccBlock_frame s b
  rw [heq, eccStage_iff]
  exact hd.elim (fun hsame => hsame ▸ eccStage_iff.mp h) .inr

/-- R224 does not look at the response given before it. -/
theorem eccBlock_respondWith (s : State) (r : Response) (b : Nat) :
    (s.respondWith r).eccBlock b = (s.eccBlock b).respondWith r := by
  rw [eccBlock_eq, eccBlock_eq]
  rfl

theorem eccBlocks_respondWith (s : State) (r : Response) (blocks : List Nat) :
    (s.respondWith r).eccBlocks blocks = (s.eccBlocks blocks).respondWith r :=
  List.foldl_hom (State.respondWith · r) fun u b => eccBlock_respondWith u r b

/-- The constituents of RS.ECCALL complete one after another. -/
theorem foldl_opRsEccBlock {blocks : List Nat} {s : State} (hds : s.eccStage = true) (hb : ∀ b ∈ blocks, b < s.nblk)
    (v : Nat) : ∃ v', 
      blocks.foldl (fun r b => Result.andThen r (opRsEccBlock b)) (.done s v) = .done (s.eccBlocks blocks) v' := by
  induction blocks generalizing s v with
  | nil => exact ⟨v, rfl⟩
  | cons b blocks ih =>
    obtain ⟨hfirst, hrest⟩ := List.forall_mem_cons.mp hb
    rw [List.foldl_cons, andThen_done, opRsEccBlock_done hds hfirst]
    exact ih (eccStage_eccBlock hds b) (by rwa [eccBlock_nblk]) _

theorem opRsEccAll_done {s : State} (hds : s.eccStage = true) :
    opRsEccAll s = .done (s.eccBlocks (List.range s.nblk)) (s.eccBlocks (List.range s.nblk)).nblk := by
  obtain ⟨v, hchain⟩ := foldl_opRsEccBlock hds (fun b hb => List.mem_range.mp hb) 0
  rw [opRsEccAll, if_neg (not_not_intro hds), hchain, respond_done]

/-- RS.ECC commands one after another leave what the constituents leave, and the response of the last. -/
theorem execAll_rsEcc {blocks : List Nat} {s : State} (hlive : live s) (hds : s.eccStage = true)
    (hb : ∀ b ∈ blocks, b < s.nblk) (hnblk : s.nblk ≤ 256) :
    ∃ r, execAll (blocks.map fun b => .rsEcc (BitVec.ofNat 8 b)) s = some { s.eccBlocks blocks with resp := r } := by
  induction blocks generalizing s with
  | nil => exact ⟨s.resp, rfl⟩
  | cons b blocks ih =>
    obtain ⟨hfirst, hrest⟩ := List.forall_mem_cons.mp hb
    have hoperand : (BitVec.ofNat 8 b).toNat = b := by
      rw [BitVec.toNat_ofNat]
      exact Nat.mod_eq_of_lt (by omega)
    have hop : opOf (.rsEcc (BitVec.ofNat 8 b)) s = .done (s.eccBlock b) (s.eccBlock b).evcnt := by
      rw [opOf, opRsEcc, hoperand, opRsEccBlock_done hds hfirst]
    have hkept : ((s.eccBlock b).complete (s.eccBlock b).evcnt).nblk = s.nblk := eccBlock_nblk s b
    obtain ⟨r, hall⟩ := ih (s := (s.eccBlock b).complete (s.eccBlock b).evcnt) ((eccBlock_flt s b).trans hlive)
      (eccStage_eccBlock hds b) (hkept.symm ▸ hrest) (hkept.symm ▸ hnblk)
    refine ⟨r, ?_⟩
    rw [List.map_cons, execAll, exec_of_done (.inr hlive) hop]
    rw [State.complete, eccBlocks_respondWith] at hall
    exact hall

theorem length_d_of_blocks {s : State} (h : DataInv s) (hds : 3 ≤ s.ds.code) : s.d.length = s.nblk := by
  have hlen := congrArg List.length (h.blockLens hds)
  rw [List.length_map, List.length_map, List.length_range] at hlen
  exact hlen.trans (h.blockCount hds).1.symm

theorem set_map_take_append_drop {α β : Type} (f : α → β) {d : List α} {e : List β} {n : Nat} (hd : n < d.length)
    (he : n < e.length) :
    ((d.take n).map f ++ e.drop n).set n (f d[n]) = (d.take (n + 1)).map f ++ e.drop (n + 1) := by
  have hlen : ((d.take n).map f).length = n := by rw [List.length_map, List.length_take]; omega
  rw [List.set_append_right _ _ (Nat.le_of_eq hlen), hlen, Nat.sub_self, List.drop_eq_getElem_cons he,
    List.set_cons_zero, ← List.take_append_getElem hd, List.map_append, List.map_singleton,
    List.append_assoc, List.singleton_append]

/-- The first `n` blocks done: their redundancy is there, and the data path is as it was before. -/
theorem eccBlocks_range {s : State} (h : DataInv s) (hds : s.eccStage = true) {n : Nat} (hn : n ≤ s.nblk) :
    DataInv (s.eccBlocks (List.range n)) ∧ (s.eccBlocks (List.range n)).eccStage = true ∧ ∃ m d,
      s.eccBlocks (List.range n) = { s with
        e := (s.d.take n).map (fun block => some (rsEcc s.rom block s.row.ec)) ++ s.e.drop n,
        evcnt := m, ds := d } := by
  induction n with
  | zero => exact ⟨h, hds, s.evcnt, s.ds, rfl⟩
  | succ n ih =>
    obtain ⟨hinv, hstage, m, d, heq⟩ := ih (by omega)
    have hd : n < s.d.length := by rw [length_d_of_blocks h (code_of_eccStage hds)]; omega
    have he : n < s.e.length := by
      obtain ⟨hnblk, helen⟩ := h.blockCount (code_of_eccStage hds)
      omega
    rw [eccBlocks_range_succ]
    refine ⟨dataInv_eccBlock hinv hstage (by rw [heq]; exact hn), eccStage_eccBlock hstage n, ?_⟩
    obtain ⟨m', d', hblock, -⟩ := eccBlock_frame (s.eccBlocks (List.range n)) n
    have hset := set_map_take_append_drop (fun block => some (rsEcc s.rom block s.row.ec)) hd he
    rw [List.getElem_eq_getD []] at hset
    refine ⟨m', d', ?_⟩
    rw [hblock, heq]
    exact congrArg (fun e => { s with e := e, evcnt := m', ds := d' }) hset

/-- Settles O41: the chain of constituents is the chain of commands but for the responses, and once every block is
marked the count is `NBLK` and the stage is closed. -/
theorem rsEccAllDoesEveryBlock : Obligations.RsEccAllDoesEveryBlock := by
  intro s hlive hinv
  refine ⟨decode_encode .rsEccAll, fun hstage => ?_, fun hsplit hdone => ?_⟩
  · have hds := eccStage_iff.mpr hstage
    have hcode := code_of_eccStage hds
    obtain ⟨hnblk, helen⟩ := hinv.blockCount hcode
    have hdlen := length_d_of_blocks hinv hcode
    have hblocks : s.nblk ≤ 68 := hnblk ▸ (row_fits hinv.rom).blocks
    obtain ⟨r, hall⟩ := execAll_rsEcc hlive hds (fun b hb => List.mem_range.mp hb) (Nat.le_trans hblocks (by decide))
    obtain ⟨hinv', hds', m, d, heq⟩ := eccBlocks_range hinv hds (Nat.le_refl s.nblk)
    have hop : opOf .rsEccAll s = _ := opRsEccAll_done hds
    rw [List.take_of_length_le (by omega), List.drop_of_length_le (by omega), List.append_nil] at heq
    have hcount : m = s.nblk := by
      have hmarks := hinv'.evcnt
      rw [heq] at hmarks
      dsimp only at hmarks
      rw [hmarks, ← hdlen, List.countP_map]
      exact List.countP_eq_length.mpr fun _ _ => rfl
    have hclosed : d = .eccDone := by
      have hopen := hinv'.splitOpen
      rw [heq] at hopen hds'
      exact (eccStage_iff.mp hds').resolve_left fun hsplit => Nat.ne_of_lt (hopen hsplit) hcount
    subst hcount hclosed
    rw [heq] at hop hall
    refine ⟨_, _, exec_of_done (.inr hlive) hop, hall, rfl, rfl, rfl, rfl, ?_⟩
    simp only [hinv.rom, eccLoop_eq_rsEcc]
    rfl
  · exact exec_of_raised hlive (if_pos (mt eccStage_iff.mp (not_or.mpr ⟨hsplit, hdone⟩)))

/-! ### Where the interleaving puts a codeword (R227) -/

/-- Element `k` of part `i` of a sequence of parts stands behind the parts before it. -/
theorem getElem?_flatMap_range {α : Type} {n i k : Nat} {f : Nat → List α} {v : α} (hi : i < n)
    (hv : (f i)[k]? = some v) :
    ((List.range n).flatMap f)[sumBelow i (fun j => (f j).length) + k]? = some v := by
  induction n with
  | zero => exact absurd hi (Nat.not_lt_zero i)
  | succ n ih =>
    rw [List.range_succ, List.flatMap_append, List.flatMap_singleton]
    obtain hlt | rfl := Nat.lt_succ_iff_lt_or_eq.mp hi
    · have hin := ih hlt
      obtain ⟨hbound, -⟩ := List.getElem?_eq_some_iff.mp hin
      rwa [List.getElem?_append_left hbound]
    · rwa [← length_flatMap_range, List.getElem?_append_right (Nat.le_add_right ..), Nat.add_sub_cancel_left]

/-- The data codewords at position `i` of the blocks that have one (R227). -/
def dataAt (s : State) (i : Nat) : List Byte :=
  (List.range s.nblk).flatMap fun b => if i < s.dlen b then [s.readData b i] else []

/-- The redundancy codewords at position `j` of the blocks (R227). -/
def redundancyAt (s : State) (j : Nat) : List Byte := (List.range s.nblk).map fun b => s.readRedundancy b j

theorem interleaved_eq (s : State) : interleaved s =
    (List.range (max s.row.g1w s.row.g2w)).flatMap (dataAt s) ++ (List.range s.row.ec).flatMap (redundancyAt s) := rfl

theorem sumBelow_redundancyAt (s : State) (n : Nat) : sumBelow n (fun j => (redundancyAt s j).length) = n * s.nblk :=
  sumBelow_const fun j _ => by rw [redundancyAt, List.length_map, List.length_range]

/-- A printed row has no block of group 2, or those blocks are one codeword longer (R38). -/
theorem group2_of_dataInv {s : State} (h : DataInv s) (hds : s.ds ≠ .text) :
    s.row.g2b = 0 ∨ s.row.g2w = s.row.g1w + 1 := by
  have htier : 1 ≤ s.tier := Nat.pos_of_ne_zero (mt h.tierZero.mpr hds)
  obtain ⟨-, -, -, -, hgroup, -⟩ :=
    standard_row_relations s.tier (List.mem_range'_1.mpr ⟨htier, Nat.lt_succ_of_le h.tierMax⟩)
  rw [State.row, h.rom]
  exact hgroup.imp_left And.left

/-- Where the blocks are there, those of group 1 have `G1W` codewords and those of group 2 have one more. -/
structure TwoGroups (s : State) : Prop where
  first : ∀ b < s.row.g1b, s.dlen b = s.row.g1w
  second : ∀ b < s.nblk, s.row.g1b ≤ b → s.dlen b = s.row.g1w + 1

theorem twoGroups_of_dataInv {s : State} (h : DataInv s) (hds : 3 ≤ s.ds.code) : TwoGroups s := by
  have hfit := blocksFit_of_dataInv h
  have htext : s.ds ≠ .text := fun htext => absurd hds (by rw [htext]; decide)
  refine ⟨fun b hb => ?_, fun b hb hsecond => ?_⟩
  · rw [hfit.dlen_eq hds (Nat.lt_of_lt_of_le hb (Nat.le_add_right ..)), blockLen_of_lt hb]
  · rw [(hfit hds).1] at hb
    rw [hfit.dlen_eq hds hb, blockLen_of_le hsecond]
    rw [TierRow.blocks] at hb
    exact (group2_of_dataInv h htext).resolve_left (by omega)

section Interleaving

variable {s : State} {b i : Nat}

theorem TwoGroups.le_dlen (h : TwoGroups s) (hb : b < s.nblk) : s.row.g1w ≤ s.dlen b := by
  obtain hfirst | hsecond := Nat.lt_or_ge b s.row.g1b
  · exact Nat.le_of_eq (h.first b hfirst).symm
  · rw [h.second b hb hsecond]
    exact Nat.le_succ _

/-- A codeword beyond `G1W` is the last one of a block of group 2. -/
theorem TwoGroups.last_of_le (h : TwoGroups s) (hb : b < s.nblk) (hi : i < s.dlen b) (hlong : s.row.g1w ≤ i) :
    s.row.g1b ≤ b ∧ i = s.row.g1w := by
  obtain hfirst | hsecond := Nat.lt_or_ge b s.row.g1b
  · rw [h.first b hfirst] at hi
    omega
  · rw [h.second b hb hsecond] at hi
    omega

/-- How many of the first `n` blocks have a codeword at position `i`. -/
def countDataAt (s : State) (i n : Nat) : Nat :=
  sumBelow n fun b => (if i < s.dlen b then [s.readData b i] else []).length

/-- Below `G1W` every block has a codeword. -/
theorem TwoGroups.countDataAt_below (h : TwoGroups s) (hi : i < s.row.g1w) {n : Nat} (hn : n ≤ s.nblk) :
    countDataAt s i n = n := by
  have hone (b : Nat) (hb : b < n) : (if i < s.dlen b then [s.readData b i] else []).length = 1 := by
    rw [if_pos (Nat.lt_of_lt_of_le hi (h.le_dlen (Nat.lt_of_lt_of_le hb hn)))]
    rfl
  exact (sumBelow_const hone).trans (Nat.mul_one n)

/-- At `G1W` the blocks of group 2 alone have a codeword. -/
theorem TwoGroups.countDataAt_last (h : TwoGroups s) {k : Nat} (hk : s.row.g1b + k ≤ s.nblk) :
    countDataAt s s.row.g1w (s.row.g1b + k) = k := by
  have hnone (b : Nat) (hb : b < s.row.g1b) :
      (if s.row.g1w < s.dlen b then [s.readData b s.row.g1w] else []).length = 0 := by
    rw [if_neg (by rw [h.first b hb]; exact Nat.lt_irrefl _)]
    rfl
  have hone (b : Nat) (hb : b < k) : (if s.row.g1w < s.dlen (s.row.g1b + b) then
      [s.readData (s.row.g1b + b) s.row.g1w] else []).length = 1 := by
    rw [if_pos (by rw [h.second _ (by omega) (Nat.le_add_right ..)]; exact Nat.lt_succ_self _)]
    rfl
  rw [countDataAt, sumBelow_split, sumBelow_const hnone, sumBelow_const hone, Nat.mul_zero, Nat.zero_add, Nat.mul_one]

theorem TwoGroups.sumBelow_dataAt (h : TwoGroups s) (hi : i ≤ s.row.g1w) :
    sumBelow i (fun j => (dataAt s j).length) = i * s.nblk :=
  sumBelow_const fun _ hj =>
    (length_flatMap_range ..).trans (h.countDataAt_below (Nat.lt_of_lt_of_le hj hi) (Nat.le_refl _))

theorem getElem?_dataAt (hb : b < s.nblk) (hi : i < s.dlen b) :
    (dataAt s i)[countDataAt s i b]? = some (s.readData b i) :=
  getElem?_flatMap_range (k := 0) hb (by rw [if_pos hi]; rfl)

/-- A data codeword stands behind those of the positions before its own, and those of the blocks before its own. -/
theorem TwoGroups.getElem?_interleaved (h : TwoGroups s) (hb : b < s.nblk) (hi : i < s.dlen b)
    (hmax : s.dlen b ≤ max s.row.g1w s.row.g2w) :
    (interleaved s)[if i < s.row.g1w then i * s.nblk + b else s.row.g1w * s.nblk + (b - s.row.g1b)]? =
      some (s.readData b i) := by
  have hdata := getElem?_flatMap_range (f := dataAt s) (Nat.lt_of_lt_of_le hi hmax) (getElem?_dataAt hb hi)
  have hpos : sumBelow i (fun j => (dataAt s j).length) + countDataAt s i b =
      if i < s.row.g1w then i * s.nblk + b else s.row.g1w * s.nblk + (b - s.row.g1b) := by
    split
    next hbelow => rw [h.sumBelow_dataAt (Nat.le_of_lt hbelow), h.countDataAt_below hbelow (Nat.le_of_lt hb)]
    next hlong =>
      obtain ⟨hsecond, rfl⟩ := h.last_of_le hb hi (Nat.not_lt.mp hlong)
      obtain ⟨k, rfl⟩ := Nat.exists_eq_add_of_le hsecond
      rw [h.sumBelow_dataAt (Nat.le_refl _), h.countDataAt_last (Nat.le_of_lt hb), Nat.add_sub_cancel_left]
  rw [hpos] at hdata
  obtain ⟨hbound, -⟩ := List.getElem?_eq_some_iff.mp hdata
  rw [interleaved_eq, List.getElem?_append_left hbound, hdata]

/-- A redundancy codeword stands behind the data codewords and those of the positions before its own. -/
theorem getElem?_interleaved_redundancy {j : Nat}
    (hlen : (interleaved s).length = s.row.td + s.row.ec * s.nblk) (hb : b < s.nblk) (hj : j < s.row.ec) :
    (interleaved s)[s.row.td + j * s.nblk + b]? = some (s.readRedundancy b j) := by
  have hrow : (redundancyAt s j)[b]? = some (s.readRedundancy b j) := by
    rw [redundancyAt, List.getElem?_map, List.getElem?_range hb]
    rfl
  have hecc := getElem?_flatMap_range hj hrow
  rw [interleaved_eq, List.length_append, length_flatMap_range (f := redundancyAt s), sumBelow_redundancyAt] at hlen
  rw [sumBelow_redundancyAt] at hecc
  rw [interleaved_eq, ← Nat.add_right_cancel hlen, Nat.add_assoc, List.getElem?_append_right (Nat.le_add_right ..),
    Nat.add_sub_cancel_left, hecc]

theorem codewordAt_finalBits {p : Nat} {v : Byte} (h : (interleaved s)[p]? = some v) :
    codewordAt (finalBits s) p = v := by
  obtain ⟨hp, rfl⟩ := List.getElem?_eq_some_iff.mp h
  exact codewordAt_flatMap _ _ _ hp

theorem drop_finalBits : (finalBits s).drop (8 * (interleaved s).length) = List.replicate s.row.rem false := by
  rw [finalBits, List.drop_left' (length_flatMap_bits8 _)]
  rfl

end Interleaving

/-- Settles O42: a codeword of FINAL is that of the interleaving at its position, and its position counts what
stands before it. -/
theorem rsIlvInterleaves : Obligations.RsIlvInterleaves := by
  intro s hlive hinv
  refine ⟨decode_encode .rsIlv, fun hds => ?_, fun hds => exec_of_raised hlive (if_pos hds)⟩
  have hcode : 3 ≤ s.ds.code := by rw [hds]; decide
  have hfit := blocksFit_of_dataInv hinv
  obtain ⟨hnblk, helen⟩ := hinv.blockCount hcode
  have hlen : (interleaved s).length = s.row.tc := length_interleaved hinv.rom hfit hcode
  have hop : opOf .rsIlv s = .done { s with final := finalBits s, ds := .final } (finalBits s).length :=
    if_neg (not_not_intro hds)
  refine ⟨finalBits s, exec_of_done (.inr hlive) hop, length_finalBits hinv.rom hfit hcode, fun b i v hv => ?_,
    fun b ecc j v hecc hj => ?_, hlen ▸ drop_finalBits⟩
  · obtain ⟨hi, rfl⟩ := readData_of_getElem? hv
    have hb : b < s.nblk := length_d_of_blocks hinv hcode ▸ lt_length_of_lt_dlen hi
    have hmax : s.dlen b ≤ max s.row.g1w s.row.g2w := by
      rw [hfit.dlen_eq hcode (hnblk ▸ hb)]
      exact blockLen_le_max ..
    exact codewordAt_finalBits ((twoGroups_of_dataInv hinv hcode).getElem?_interleaved hb hi hmax)
  · obtain ⟨hb, -⟩ := List.getElem?_eq_some_iff.mp hecc
    obtain ⟨hin, -⟩ := List.getElem?_eq_some_iff.mp hj
    rw [← readRedundancy_of_getElem? hecc hj]
    rw [hinv.eccLens _ (List.mem_of_getElem? hecc) ecc rfl] at hin
    rw [helen, ← hnblk] at hb
    rw [TierRow.tc, ← hnblk] at hlen
    exact codewordAt_finalBits (getElem?_interleaved_redundancy hlen hb hin)

end Sys2Proof.Machine

/-! ## The cells of the builder's steps -/

namespace Sys2Proof.Machine

open Sys2Proof.Safety

/-! ### A cell after a list of writes (R251) -/

/-- Writes that write one value to a cell, or none, leave it that value, or as it was. -/
theorem get_setAll_eq {n : Nat} {g : Grid} (hg : g.wf n = true) {ws : List (Cell × Bool)} {x y : Nat} (hx : x < n)
    (hy : y < n) {o : Option Bool} (hws : ∀ v, ((x, y), v) ∈ ws ↔ o = some v) :
    (g.setAll ws).get x y = o.getD (g.get x y) := by
  have hval : ∀ w ∈ ws, w.1 = (x, y) → o = some w.2 := fun w hw e => (hws w.2).mp (e ▸ hw)
  cases o with
  | none => exact Grid.get_setAll_not_mem g ws x y fun w hw e => nomatch hval w hw e
  | some v =>
    exact Grid.get_setAll_mem hg ws hx hy ((hws v).mpr rfl) fun w hw e => (Option.some.inj (hval w hw e)).symm

theorem get_reserve {s : State} (hr : s.r.wf s.size = true) {cells : List Cell} {x y : Nat} (hx : x < s.size)
    (hy : y < s.size) {b : Bool} (hcells : (x, y) ∈ cells ↔ b = true) :
    (s.reserve cells).r.get x y = (b || s.r.get x y) := by
  cases b with
  | true => exact reserve_of_mem hr hx hy (hcells.mpr rfl)
  | false =>
    have hnot : (x, y) ∉ cells := fun hmem => nomatch hcells.mp hmem
    exact get_setAll_of_notMem s.r (by simpa using hnot)

theorem get_stamp_r {s : State} (hr : s.r.wf s.size = true) {ws : List (Cell × Bool)} {x y : Nat} (hx : x < s.size)
    (hy : y < s.size) {o : Option Bool} (hws : ∀ v, ((x, y), v) ∈ ws ↔ o = some v) :
    (s.stamp ws).r.get x y = (o.isSome || s.r.get x y) := by
  rw [stamp_r_eq]
  exact get_reserve hr hx hy (by simp [hws, Option.isSome_iff_exists])

/-! ### The patterns with their bits (R40, R253) -/

theorem patternBit_bitTable {k : Nat} (f : Nat → Nat → Bool) {dx dy : Nat} (hx : dx < k) (hy : dy < k) :
    patternBit (bitTable k f) dx dy = f dx dy := by
  simp [patternBit, bitTable, List.getD_eq_getElem?_getD, hx, hy]

theorem mem_patternCells_bitTable {k : Nat} {f : Nat → Nat → Bool} {ox oy x y : Nat} {v : Bool} :
    ((x, y), v) ∈ patternCells k (bitTable k f) ox oy ↔
      ((ox ≤ x ∧ x < ox + k) ∧ oy ≤ y ∧ y < oy + k) ∧ f (x - ox) (y - oy) = v := by
  simp only [patternCells, List.mem_flatMap, List.mem_map, List.mem_range, Prod.mk.injEq]
  constructor
  · rintro ⟨dx, hdx, dy, hdy, ⟨rfl, rfl⟩, rfl⟩
    rw [patternBit_bitTable f hdx hdy, Nat.add_sub_cancel_left, Nat.add_sub_cancel_left]
    exact ⟨by omega, rfl⟩
  · rintro ⟨hin, rfl⟩
    exact ⟨x - ox, by omega, y - oy, by omega, by omega, patternBit_bitTable f (by omega) (by omega)⟩

/-- Step 1 stamps the locator patterns. -/
theorem mem_finderCells_standard {n x y : Nat} (hn : 14 ≤ n) {v : Bool} :
    ((x, y), v) ∈ finderCells Rom.standard n ↔ locatorAt n x y = some v := by
  have hmem : ((x, y), v) ∈ finderCells Rom.standard n ↔
      (x < 7 ∧ y < 7) ∧ finderBit x y = v ∨ ((n - 7 ≤ x ∧ x < n) ∧ y < 7) ∧ finderBit (x - (n - 7)) y = v ∨
        (x < 7 ∧ n - 7 ≤ y ∧ y < n) ∧ finderBit x (y - (n - 7)) = v := by
    have hend : n - 7 + 7 = n := by omega
    simp [finderCells, locatorOrigins, Rom.standard, mem_patternCells_bitTable, hend]
  rw [hmem]
  unfold locatorAt
  split
  next h =>
    have h2 : ¬ (n - 7 ≤ x) := by omega
    have h3 : ¬ (n - 7 ≤ y) := by omega
    simp [h, h2, h3]
  split
  next h =>
    have h1 : ¬ x < 7 := by omega
    simp [h, h1]
  split
  next h =>
    have h1 : ¬ y < 7 := by omega
    simp [h, h1]
  next h1 h2 h3 => exact iff_of_false (by omega) nofun

end Sys2Proof.Machine

/-! ## The locator patterns under a change -/

namespace Sys2Proof.Machine

open Sys2Proof.Safety

/-! ### Where a locator cell is not (R266) -/

section Locator

variable {v n x y : Nat} (hn : 21 ≤ n) (h : (locatorAt n x y).isSome = true)

include hn h

theorem locatorAt_lt : x < n ∧ y < n := by
  have := isSome_locatorAt.mp h
  omega

theorem locatorAt_notMem_timingCells : (x, y) ∉ (timingCells n).map Prod.fst := by
  intro hmem
  have := mem_timingCells hmem
  have := isSome_locatorAt.mp h
  omega

theorem locatorAt_ne_darkModule : (x, y) ≠ darkModule v := by
  intro hdark
  obtain ⟨hx, -⟩ := Prod.mk.inj hdark
  have := isSome_locatorAt.mp h
  omega

end Locator

/-! ### The invariant under a change of the matrix path -/

/-- The locator patterns stand in a grid of side `n`. -/
def LocatorsIn (n : Nat) (g : Grid) : Prop := ∀ x y b, locatorAt n x y = some b → g.get x y = b

/-- A grid with the same locator cells has the same patterns. -/
theorem LocatorsIn.of_kept {n : Nat} {g g' : Grid} (h : LocatorsIn n g)
    (hkept : ∀ x y, (locatorAt n x y).isSome = true → g'.get x y = g.get x y) : LocatorsIn n g' :=
  fun x y b hb => (hkept x y (Option.isSome_of_mem hb)).trans (h x y b hb)

/-- Step 1 draws the patterns. -/
theorem locatorsIn_finderCells {s : State} (h : GridReady s) :
    LocatorsIn s.size (s.g.setAll (finderCells s.rom s.size)) := by
  intro x y b hb
  have hside := side_of_gridReady h
  obtain ⟨hx, hy⟩ := locatorAt_lt hside (Option.isSome_of_mem hb)
  rw [h.rom, get_setAll_eq h.gridG hx hy fun v => mem_finderCells_standard (by omega), hb, Option.getD_some]

/-- A reserved cell is in no footprint that is stamped (R255). -/
theorem aligned_g_of_reserved {s : State} (h : GridReady s) {x y : Nat} (hxy : s.r.get x y = true) :
    s.aligned.g.get x y = s.g.get x y := by
  refine (aligning_aligned h.gridG h.gridR).kept x y fun c _ hfree hmem => ?_
  exact Bool.false_ne_true (hfree.symm.trans ((footprintReserved_iff ..).mpr ⟨x, y, hmem, hxy⟩))

/-- MX.PLACE writes free cells only. -/
theorem place_g_of_reserved {n : Nat} {g r : Grid} {bits : List Bool} {x y : Nat} (hxy : r.get x y = true) :
    (g.setAll ((zigzag n r).zip bits)).get x y = g.get x y := by
  refine get_setAll_of_notMem g fun hmem => ?_
  obtain ⟨⟨c, b⟩, hzip, rfl⟩ := List.mem_map.mp hmem
  exact Bool.false_ne_true ((free_of_mem_zigzag (List.of_mem_zip hzip).1).symm.trans hxy)

theorem locatorsIn_of_matrixChange {s t : State} (h : MatrixChange s t) (hs : LocatorInv s) (ht : 2 ≤ t.ms.code) :
    LocatorsIn t.size t.g := by
  by_cases hms : 1 ≤ s.ms.code
  · have hready := gridReady_of_stage hs.matrix hms
    have hside := side_of_gridReady hready
    have hloc := locatorsReserved_of_locatorInv hs
    have hin : 2 ≤ s.ms.code → LocatorsIn s.size s.g := hs.inG
    cases h with
    | alloc _ h0 => rw [h0] at hms; cases hms
    | find cells hcells =>
      show LocatorsIn s.size (s.g.setAll cells)
      rw [hcells]
      exact locatorsIn_finderCells hready
    | timing cells hcells halign =>
      refine (hin (by rw [halign]; decide)).of_kept fun x y hxy => get_setAll_of_notMem s.g ?_
      exact hcells ▸ locatorAt_notMem_timingCells hside hxy
    | dark cells hcells htiming =>
      refine (hin (by rw [htiming]; decide)).of_kept fun x y hxy => get_setAll_of_notMem s.g ?_
      have hdark := locatorAt_ne_darkModule (v := s.tier) hside hxy
      exact hcells ▸ by simpa using hdark
    | align u hu hsep =>
      have h2 : 2 ≤ s.ms.code := by rw [hsep]; decide
      exact (hin h2).of_kept fun x y hxy => hu ▸ aligned_g_of_reserved hready (hloc h2 x y hxy)
    | place cells hcells hfixed =>
      have h2 : 2 ≤ s.ms.code := by rw [hfixed]; decide
      exact (hin h2).of_kept fun x y hxy => hcells ▸ place_g_of_reserved (hloc h2 x y hxy)
    | sep _ _ hfind => exact hin (by rw [hfind]; decide)
    | fmt _ _ hdark => exact hin (by rw [hdark]; decide)
    | applyMask _ h8 | tryAll _ _ _ _ h8 => exact hin (by omega)
    | setScore => exact hin ht
  · cases h
    case alloc => exact absurd ht (show ¬ 2 ≤ 1 by decide)
    -- Every other step needs a grid.
    all_goals simp_all [MatrixStage.code]

/-- A trial grid has the patterns of G, since their cells are reserved (R294). -/
theorem locatorsIn_trialGrid {s : State} (hs : LocatorInv s) (hms : 8 ≤ s.ms.code) (k : MaskIdx) :
    LocatorsIn s.size (trialGrid k s.size s.g s.r) := by
  have hside := side_of_gridReady (gridReady_of_stage hs.matrix (by omega))
  refine LocatorsIn.of_kept (hs.inG (by omega)) fun x y hxy => ?_
  obtain ⟨hx, hy⟩ := locatorAt_lt hside hxy
  exact get_trialGrid_of_reserved hx hy (locatorsReserved_of_locatorInv hs (by omega) x y hxy)

theorem locatorInv_of_matrixChange {s t : State} (h : MatrixChange s t) (hs : LocatorInv s) : LocatorInv t where
  matrix := matrixInv_of_matrixChange h hs.matrix
  reserved := fun ht x y _ hb => locatorsReserved_of_matrixChange h hs.matrix (locatorsReserved_of_locatorInv hs) ht x y
    (Option.isSome_of_mem hb)
  inG := locatorsIn_of_matrixChange h hs
  inT := by
    cases h with
    | alloc _ hms =>
      have htv : s.tv ≠ true := tv_of_lt_eight hs.matrix (by rw [hms]; decide)
      exact fun ht => absurd ht htv
    | applyMask k hms | tryAll k _ _ _ hms => exact fun _ => locatorsIn_trialGrid hs hms k
    | find | sep | align | timing | dark | fmt | place | setScore => exact hs.inT
  inO := by
    cases h with
    | tryAll _ k _ _ hms => exact fun _ => locatorsIn_trialGrid hs hms k
    | applyMask | setScore => exact hs.inO
    | alloc | find | sep | align | timing | dark | fmt | place => exact nofun

/-! ### The invariant under every change -/

theorem locatorInv_of_ms_none {s : State} (h : MatrixInv s) (hms : s.ms = .none) : LocatorInv s :=
  have hcode : s.ms.code = 0 := by rw [hms]; rfl
  { matrix := h
    reserved := fun h2 => absurd h2 (by omega)
    inG := fun h2 => absurd h2 (by omega)
    inT := fun htv => absurd htv (tv_of_lt_eight h (by omega))
    inO := fun h9 => absurd h9 (by rw [hms]; decide) }

theorem locatorInv_of_change {s t : State} (h : Change s t) (hs : LocatorInv s) : LocatorInv t := by
  have hmatrix : MatrixInv t := matrixInv_of_change h hs.matrix
  cases h with
  | reset | newJob => exact locatorInv_of_ms_none hmatrix rfl
  | chooseTier v hds => exact locatorInv_of_ms_none hmatrix (show s.ms = .none from ms_none_of_text hs.matrix hds)
  | data h =>
    rw [h.frame.1] at hmatrix ⊢
    exact { hs with matrix := hmatrix }
  | matrix h => exact locatorInv_of_matrixChange h hs

/-- Settles O59: every step is a sequence of changes; the one that draws the patterns reserves their cells, and no other
writes a locator cell of G or differs from G there. -/
theorem locatorPatternsStand : Obligations.LocatorPatternsStand :=
  fun _ _ _ hlocators hstep => (changes_step hstep).keep locatorInv_of_change hlocators

end Sys2Proof.Machine

/-! ## The steps of the builder, cell by cell -/

namespace Sys2Proof.Machine

open Sys2Proof.Safety

/-! ### The state a step leaves (R252 to R259) -/

/-- A step that stamps cells and moves to the stage `m`. -/
def State.stampTo (s : State) (cells : List (Cell × Bool)) (m : MatrixStage) : State := { s.stamp cells with ms := m }

/-- A step that reserves cells and moves to the stage `m`. -/
def State.reserveTo (s : State) (cells : List Cell) (m : MatrixStage) : State := { s.reserve cells with ms := m }

section Steps

variable (s : State)

@[simp] theorem stampTo_g (cells : List (Cell × Bool)) (m : MatrixStage) : (s.stampTo cells m).g = s.g.setAll cells := rfl

@[simp] theorem stampTo_r (cells : List (Cell × Bool)) (m : MatrixStage) :
    (s.stampTo cells m).r = (s.stamp cells).r := rfl

@[simp] theorem stampTo_size (cells : List (Cell × Bool)) (m : MatrixStage) : (s.stampTo cells m).size = s.size := rfl

@[simp] theorem reserveTo_size (cells : List Cell) (m : MatrixStage) : (s.reserveTo cells m).size = s.size := rfl

@[simp] theorem reserveTo_r (cells : List Cell) (m : MatrixStage) : (s.reserveTo cells m).r = (s.reserve cells).r := rfl

/-- After step 0 (R252). -/
def State.allocated : State :=
  { s with g := .blank s.row.side, r := .blank s.row.side, size := s.row.side, ms := .alloc }

/-- After step 1 (R253). -/
def State.found : State := s.stampTo (finderCells s.rom s.size) .find

/-- After step 2 (R254). -/
def State.separated : State := s.reserveTo (separatorCells s.size) .sep

/-- After step 3 (R256); `State.aligned` is the state before the stage moves on. -/
def State.patterned : State := { s.aligned with ms := .align }

/-- After step 4 (R257). -/
def State.timed : State := s.stampTo (timingCells s.size) .timing

/-- After step 5 (R258). -/
def State.darkened : State := s.stampTo [(darkModule s.tier, true)] .dark

/-- After step 6 (R259). -/
def State.formatted : State := s.reserveTo (formatCells s.size ++ versionCells s.tier s.size) .fixed

end Steps

section Operations

variable {s : State}

theorem opMxAlloc_done (hds : 1 ≤ s.ds.code) (hms : s.ms = .none) : opMxAlloc s = .done s.allocated s.row.side :=
  if_neg (not_not_intro ⟨hds, hms⟩)

theorem opMxFind_done (hms : s.ms = .alloc) : opMxFind s = .done s.found 0 := if_neg (not_not_intro hms)

theorem opMxSep_done (hms : s.ms = .find) : opMxSep s = .done s.separated 0 := if_neg (not_not_intro hms)

theorem opMxAlign_done (hms : s.ms = .sep) : opMxAlign s = .done s.patterned s.patterned.nstamp :=
  if_neg (not_not_intro hms)

theorem opMxTiming_done (hms : s.ms = .align) : opMxTiming s = .done s.timed 0 := if_neg (not_not_intro hms)

theorem opMxDark_done (hms : s.ms = .timing) : opMxDark s = .done s.darkened 0 := if_neg (not_not_intro hms)

theorem opMxFmt_done (hms : s.ms = .dark) : opMxFmt s = .done s.formatted 0 := if_neg (not_not_intro hms)

end Operations

/-! ### The cells of the steps, by their coordinates (R254, R257, R259) -/

theorem mem_separatorCells_iff {n x y : Nat} (hn : 16 ≤ n) :
    (x, y) ∈ separatorCells n ↔ isSeparator n x y = true := by
  refine ⟨fun h => ?_, mem_separatorCells hn⟩
  simp only [separatorCells, List.mem_flatMap, List.mem_range, List.mem_cons, List.not_mem_nil, or_false,
    Prod.mk.injEq] at h
  rw [isSeparator_iff]
  omega

theorem isTiming_iff {n x y : Nat} : isTiming n x y = true ↔ y = 6 ∧ 8 ≤ x ∧ x + 9 ≤ n ∨ x = 6 ∧ 8 ≤ y ∧ y + 9 ≤ n := by
  simp [isTiming, and_assoc]

/-- Step 4 stamps the strips; along each the other coordinate is 6, so the sum is even where the running one is. -/
theorem mem_timingCells_iff {n x y : Nat} {v : Bool} :
    ((x, y), v) ∈ timingCells n ↔ (if isTiming n x y then some ((x + y) % 2 == 0) else none) = some v := by
  have hparity (m : Nat) : ((m + 6) % 2 == 0) = (m % 2 == 0) := by
    rw [show (m + 6) % 2 = m % 2 by omega]
  simp only [timingCells, List.mem_flatMap, List.mem_range, List.mem_cons, List.not_mem_nil, or_false, Prod.mk.injEq,
    Option.ite_none_right_eq_some, isTiming_iff, Option.some.injEq]
  constructor
  · rintro ⟨k, hk, ⟨⟨rfl, rfl⟩, rfl⟩ | ⟨⟨rfl, rfl⟩, rfl⟩⟩
    · exact ⟨by omega, hparity _⟩
    · exact ⟨by omega, by rw [Nat.add_comm, hparity]⟩
  · rintro ⟨⟨rfl, hx⟩ | ⟨rfl, hy⟩, rfl⟩
    · refine ⟨x - 8, by omega, .inl ?_⟩
      rw [Nat.sub_add_cancel hx.1, hparity]
      exact ⟨⟨rfl, rfl⟩, rfl⟩
    · refine ⟨y - 8, by omega, .inr ?_⟩
      rw [Nat.sub_add_cancel hy.1, Nat.add_comm, hparity]
      exact ⟨⟨rfl, rfl⟩, rfl⟩

theorem mem_darkModule {tier x y : Nat} {v : Bool} :
    ((x, y), v) ∈ [(darkModule tier, true)] ↔ (if x == 8 && y == 4 * tier + 9 then some true else none) = some v := by
  rw [List.mem_singleton, darkModule, Prod.mk.injEq, Prod.mk.injEq, Option.ite_none_right_eq_some, Bool.and_eq_true,
    beq_iff_eq, beq_iff_eq, Option.some.injEq, eq_comm (a := v)]

theorem isFormat_of_mem {n x y : Nat} (hn : 8 ≤ n) (h : (x, y) ∈ formatCells n) : isFormat n x y = true := by
  simp only [formatCells, List.mem_append, List.mem_flatMap, List.mem_range, List.mem_cons, List.not_mem_nil, or_false,
    Prod.mk.injEq] at h
  rw [isFormat_iff]
  obtain ⟨k, hk, h⟩ | ⟨k, hk, h⟩ := h <;> omega

theorem isVersion_of_mem {v n x y : Nat} (hn : 11 ≤ n) (h : (x, y) ∈ versionCells v n) : isVersion v n x y = true := by
  rw [versionCells] at h
  split at h
  next hv =>
    simp only [List.mem_flatMap, List.mem_range, List.mem_cons, List.not_mem_nil, or_false, Prod.mk.injEq] at h
    obtain ⟨p, hp, q, hq, h⟩ := h
    rw [isVersion_iff]
    omega
  · cases h

theorem mem_fmtCells_iff {v n x y : Nat} (hn : 21 ≤ n) :
    (x, y) ∈ formatCells n ++ versionCells v n ↔ (isFormat n x y || isVersion v n x y) = true := by
  rw [Bool.or_eq_true]
  refine ⟨fun h => ?_, mem_fmtCells hn⟩
  exact (List.mem_append.mp h).imp (isFormat_of_mem (by omega)) (isVersion_of_mem (by omega))

/-! ### What each step leaves in a cell -/

section Cells

variable {s : State} (h : GridReady s) {x y : Nat} (hx : x < s.size) (hy : y < s.size)

include h hx hy

theorem found_g : s.found.g.get x y = (locatorAt s.size x y).getD (s.g.get x y) := by
  have hside := side_of_gridReady h
  rw [State.found, h.rom, stampTo_g]
  exact get_setAll_eq h.gridG hx hy fun v => mem_finderCells_standard (by omega)

theorem found_r : s.found.r.get x y = ((locatorAt s.size x y).isSome || s.r.get x y) := by
  have hside := side_of_gridReady h
  rw [State.found, h.rom, stampTo_r]
  exact get_stamp_r h.gridR hx hy fun v => mem_finderCells_standard (by omega)

theorem separated_r : s.separated.r.get x y = (isSeparator s.size x y || s.r.get x y) := by
  have hside := side_of_gridReady h
  rw [State.separated, reserveTo_r]
  exact get_reserve h.gridR hx hy (mem_separatorCells_iff (by omega))

theorem timed_g : s.timed.g.get x y = if isTiming s.size x y then (x + y) % 2 == 0 else s.g.get x y := by
  rw [State.timed, stampTo_g, get_setAll_eq h.gridG hx hy fun v => mem_timingCells_iff]
  cases isTiming s.size x y <;> rfl

theorem timed_r : s.timed.r.get x y = (isTiming s.size x y || s.r.get x y) := by
  rw [State.timed, stampTo_r, get_stamp_r h.gridR hx hy fun v => mem_timingCells_iff]
  cases isTiming s.size x y <;> rfl

theorem darkened_g : s.darkened.g.get x y = ((x == 8 && y == 4 * s.tier + 9) || s.g.get x y) := by
  rw [State.darkened, stampTo_g, get_setAll_eq h.gridG hx hy fun v => mem_darkModule]
  cases x == 8 && y == 4 * s.tier + 9 <;> rfl

theorem darkened_r : s.darkened.r.get x y = ((x == 8 && y == 4 * s.tier + 9) || s.r.get x y) := by
  rw [State.darkened, stampTo_r, get_stamp_r h.gridR hx hy fun v => mem_darkModule]
  cases x == 8 && y == 4 * s.tier + 9 <;> rfl

theorem formatted_r :
    s.formatted.r.get x y = (isFormat s.size x y || isVersion s.tier s.size x y || s.r.get x y) := by
  rw [State.formatted, reserveTo_r]
  exact get_reserve h.gridR hx hy (mem_fmtCells_iff (side_of_gridReady h))

end Cells

/-! ### The commands of the steps -/

theorem Grid.blank_eq_tabulate (n : Nat) : Grid.blank n = .tabulate n fun _ _ => false := by
  simp [Grid.blank, Grid.tabulate, List.map_const']

/-- A step that stamps and completes: it writes G and R, the stage and the response, nothing else. -/
theorem exec_of_stampTo {i : Instr} {s : State} {cells : List (Cell × Bool)} {m : MatrixStage} {g r : Nat → Nat → Bool}
    (hlive : live s) (hop : opOf i s = .done (s.stampTo cells m) 0)
    (hcells : GridReady s → ∀ x y, x < s.size → y < s.size →
      (s.stampTo cells m).g.get x y = g x y ∧ (s.stampTo cells m).r.get x y = r x y) :
    ∃ t, exec i s = .next t ∧ t = { s with g := t.g, r := t.r, ms := m, resp := ok 0 } ∧
      (GridReady s → ∀ x y, x < s.size → y < s.size → t.g.get x y = g x y ∧ t.r.get x y = r x y) :=
  ⟨_, exec_of_done (.inr hlive) hop, rfl, hcells⟩

/-- A step that reserves and completes: it writes R, the stage and the response, nothing else. -/
theorem exec_of_reserveTo {i : Instr} {s : State} {cells : List Cell} {m : MatrixStage} {r : Nat → Nat → Bool}
    (hlive : live s) (hop : opOf i s = .done (s.reserveTo cells m) 0)
    (hcells : GridReady s → ∀ x y, x < s.size → y < s.size → (s.reserveTo cells m).r.get x y = r x y) :
    ∃ t, exec i s = .next t ∧ t = { s with r := t.r, ms := m, resp := ok 0 } ∧
      (GridReady s → ∀ x y, x < s.size → y < s.size → t.r.get x y = r x y) :=
  ⟨_, exec_of_done (.inr hlive) hop, rfl, hcells⟩

/-- Settles O43: each step completes at its stage with the state it leaves, whose cells are known. -/
theorem mxAllocFindSep : Obligations.MxAllocFindSep := by
  intro s hlive
  refine ⟨decode_encode .mxAlloc, decode_encode .mxFind, decode_encode .mxSep, fun h => exec_of_raised hlive (if_pos h),
    fun h => exec_of_raised hlive (if_pos h), fun h => exec_of_raised hlive (if_pos h), fun hds hms => ?_, fun hms => ?_,
    fun hms => ?_⟩
  · rw [exec_of_done (i := .mxAlloc) (.inr hlive) (opMxAlloc_done hds hms), State.allocated, Grid.blank_eq_tabulate]
    rfl
  · exact exec_of_stampTo (i := .mxFind) hlive (opMxFind_done hms) fun hready _ _ hx hy =>
      ⟨found_g hready hx hy, found_r hready hx hy⟩
  · exact exec_of_reserveTo (i := .mxSep) hlive (opMxSep_done hms) fun hready _ _ hx hy => separated_r hready hx hy

/-- Settles O44: each step completes at its stage with the state it leaves, whose cells are known. -/
theorem mxTimingDarkFmt : Obligations.MxTimingDarkFmt := by
  intro s hlive
  refine ⟨decode_encode .mxTiming, decode_encode .mxDark, decode_encode .mxFmt, fun h => exec_of_raised hlive (if_pos h),
    fun h => exec_of_raised hlive (if_pos h), fun h => exec_of_raised hlive (if_pos h), fun hms => ?_, fun hms => ?_,
    fun hms => ?_⟩
  · exact exec_of_stampTo (i := .mxTiming) hlive (opMxTiming_done hms) fun hready _ _ hx hy =>
      ⟨timed_g hready hx hy, timed_r hready hx hy⟩
  · exact exec_of_stampTo (i := .mxDark) hlive (opMxDark_done hms) fun hready _ _ hx hy =>
      ⟨darkened_g hready hx hy, darkened_r hready hx hy⟩
  · exact exec_of_reserveTo (i := .mxFmt) hlive (opMxFmt_done hms) fun hready _ _ hx hy => formatted_r hready hx hy

end Sys2Proof.Machine

/-! ## Reads of a grid and of a score -/

namespace Sys2Proof.Machine

open Sys2Proof.Safety

/-- A selector is an element of the list of grids, with its validity (R264). -/
theorem exists_gridOperand {s : State} {a : Byte} {grid : Grid} {valid : Bool}
    (h : [(s.g, decide (s.ms ≠ .none)), (s.r, decide (s.ms ≠ .none)), (s.t, s.tv), (s.o, decide (s.ms = .masked))][a.toNat]? =
      some (grid, valid)) :
    ∃ sel, gridOperand a = some sel ∧ s.grid sel = grid ∧ s.gridValid sel = valid := by
  have hused : decide (1 ≤ s.ms.code) = decide (s.ms ≠ .none) := decide_eq_decide.mpr MatrixStage.code_pos
  unfold gridOperand
  match hn : a.toNat, h with
  | 0, rfl => exact ⟨.g, rfl, rfl, hused⟩
  | 1, rfl => exact ⟨.r, rfl, rfl, hused⟩
  | 2, rfl => exact ⟨.t, rfl, rfl, rfl⟩
  | 3, rfl => exact ⟨.o, rfl, rfl, rfl⟩

theorem maskOperand_of_toNat {a : Byte} {k : MaskIdx} (h : a.toNat = k.val) : maskOperand a = some k := by
  unfold maskOperand
  rw [dif_pos (h ▸ k.isLt)]
  exact congrArg some (Fin.ext h)

theorem opGridRd_of_selector {s : State} {a : Byte} {sel : GridSel} (h : gridOperand a = some sel) (b c : Byte) :
    opGridRd a b c s =
      if ¬ s.gridValid sel then seqError s
      else if ¬ b.toNat < s.size then rangeError b.toNat s
      else if ¬ c.toNat < s.size then rangeError c.toNat s
      else .done s ((s.grid sel).get b.toNat c.toNat).toNat := by
  rw [opGridRd, h]

theorem opMkRds_of_scored {s : State} {a : Byte} {k : MaskIdx} {v : Word} (ha : a.toNat = k.val)
    (hv : s.score[k] = some v) : opMkRds a s = .done s v.toNat := by
  simp only [opMkRds, maskOperand_of_toNat ha, hv]

theorem opMkRds_of_unscored {s : State} {a : Byte} {k : MaskIdx} (ha : a.toNat = k.val) (hnone : s.score[k] = none) :
    opMkRds a s = seqError s := by
  simp only [opMkRds, maskOperand_of_toNat ha, hnone]

/-- Settles O49: the selector or the index is found first, then whether there is something to read, then the cell. -/
theorem gridAndScoreReads : Obligations.GridAndScoreReads := by
  intro s a b c hlive
  refine ⟨decode_encode (.gridRd a b c), decode_encode (.mkRds a), fun grid valid hgrid => ?_, fun ha => ?_,
    fun k hk => ⟨fun v hv => ?_, fun hnone => ?_⟩, fun ha => ?_⟩
  · obtain ⟨sel, hsel, rfl, rfl⟩ := exists_gridOperand hgrid
    have hrd : opOf (.gridRd a b c) s = _ := opGridRd_of_selector hsel b c
    refine ⟨fun hvalid hb hc => ?_, fun hinvalid => ?_, fun hvalid hb => ?_, fun hvalid hb hc => ?_⟩
    · rw [if_neg (not_not_intro hvalid), if_neg (not_not_intro hb), if_neg (not_not_intro hc)] at hrd
      exact exec_of_done (.inr hlive) hrd
    · exact exec_of_raised hlive (hrd.trans (if_pos (Bool.eq_false_iff.mp hinvalid)))
    · rw [if_neg (not_not_intro hvalid), if_pos (Nat.not_lt.mpr hb)] at hrd
      exact exec_of_raised hlive hrd
    · rw [if_neg (not_not_intro hvalid), if_neg (not_not_intro hb), if_pos (Nat.not_lt.mpr hc)] at hrd
      exact exec_of_raised hlive hrd
  · have hrd : opOf (.gridRd a b c) s = rangeError a.toNat s := by
      rw [opOf, opGridRd, gridOperand_eq_none (Nat.not_le.mpr ha)]
    exact exec_of_raised hlive hrd
  · rw [exec_of_done (i := .mkRds a) (.inr hlive) (opMkRds_of_scored hk hv), complete_eq, ok, zext32,
      BitVec.ofNat_toNat, BitVec.setWidth_eq]
  · exact exec_of_raised hlive (opMkRds_of_unscored hk hnone)
  · have hrd : opOf (.mkRds a) s = rangeError a.toNat s := by
      rw [opOf, opMkRds, maskOperand_eq_none (Nat.not_le.mpr ha)]
    exact exec_of_raised hlive hrd

end Sys2Proof.Machine

/-! ## The zig-zag order -/

namespace Sys2Proof.Machine

open Sys2Proof.Safety

/-! ### The sweeps (R260) -/

/-- The right column of the pair with `q` pairs from it to the left edge, itself counted: the pairs left of column 6 end on
an odd column. -/
def pairColumn (q : Nat) : Nat := if 3 < q then 2 * q else 2 * q - 1

/-- Where a sweep begins that has `q` pairs to go, before column 6 is skipped. -/
def sweepStart (q : Nat) : Nat := if 3 ≤ q then 2 * q else 2 * q - 1

theorem skip_sweepStart (q : Nat) : (if sweepStart (q + 1) = 6 then 5 else sweepStart (q + 1)) = pairColumn (q + 1) := by
  unfold sweepStart pairColumn
  grind

theorem pairColumn_sub_two (q : Nat) : pairColumn (q + 1) - 2 = sweepStart q := by
  unfold sweepStart pairColumn
  split <;> split <;> omega

theorem sweeps_sweepStart {q fuel : Nat} (hfuel : q ≤ fuel) (up : Bool) :
    sweeps fuel (sweepStart q) up = (List.range q).map fun p => (pairColumn (q - p), up ^^ decide (p % 2 = 1)) := by
  induction q generalizing fuel up with
  | zero => cases fuel <;> rfl
  | succ q ih =>
    obtain ⟨fuel, rfl⟩ : ∃ m, fuel = m + 1 := ⟨fuel - 1, by omega⟩
    have hpos : 1 ≤ sweepStart (q + 1) := by unfold sweepStart; split <;> omega
    rw [sweeps, if_pos hpos, skip_sweepStart]
    show (pairColumn (q + 1), up) :: sweeps fuel (pairColumn (q + 1) - 2) (!up) = _
    rw [pairColumn_sub_two, ih (by omega), List.range_succ_eq_map, List.map_cons, List.map_map]
    congr 1
    · simp
    · refine List.map_congr_left fun p _ => Prod.ext ?_ ?_
      · simp
      · rcases Nat.mod_two_eq_zero_or_one p with hp | hp <;> simp [Nat.add_mod, hp]

/-! ### The traversal, reserved or not -/

/-- Cell `j` of row `t` of sweep `p` in a grid of `2 * k` pairs and column 6. -/
def traversalCell (k p t j : Nat) : Cell := (pairColumn (k - p) - j, if p % 2 = 0 then 2 * k - t else t)

/-- Every cell the sweeps pass, reserved or not. -/
def traversal (k : Nat) : List Cell :=
  (List.range k).flatMap fun p => (List.range (2 * k + 1)).flatMap fun t => [traversalCell k p t 0, traversalCell k p t 1]

theorem zigzag_eq_filter {k : Nat} (hk : 3 ≤ k) (r : Grid) :
    zigzag (2 * k + 1) r = (traversal k).filter fun c => !r.get c.1 c.2 := by
  have hstart : 2 * k + 1 - 1 = sweepStart k := by unfold sweepStart; rw [if_pos hk]; rfl
  rw [zigzag, hstart, sweeps_sweepStart (by omega), List.flatMap_map, traversal, List.filter_flatMap]
  refine congrArg (List.flatMap · _) (funext fun p => ?_)
  rw [sweepCells, List.filter_flatMap]
  refine congrArg (List.flatMap · _) (funext fun t => ?_)
  rcases Nat.mod_two_eq_zero_or_one p with hp | hp <;> simp [traversalCell, hp]

/-- The rank of R260 is the place in the traversal. -/
theorem zigzagRank_traversalCell {k p t j : Nat} (hp : p < k) (ht : t < 2 * k + 1) (hj : j < 2) :
    zigzagRank (2 * k + 1) (traversalCell k p t j) = (p * (2 * k + 1) + t) * 2 + j := by
  have hright : (if 6 < (traversalCell k p t j).1 then 2 * k + 1 - 1 - (traversalCell k p t j).1
      else 2 * k + 1 - 2 - (traversalCell k p t j).1) = p * 2 + j := by
    show (if 6 < pairColumn (k - p) - j then 2 * k + 1 - 1 - (pairColumn (k - p) - j)
      else 2 * k + 1 - 2 - (pairColumn (k - p) - j)) = p * 2 + j
    unfold pairColumn
    split <;> split <;> omega
  have hrow : (if p % 2 = 0 then 2 * k + 1 - 1 - (traversalCell k p t j).2 else (traversalCell k p t j).2) = t := by
    unfold traversalCell
    split
    · dsimp only; omega
    · rfl
  have hpair : (p * 2 + j) / 2 = p := by omega
  rw [zigzagRank, hright]
  simp only [hpair, hrow]
  omega

/-- The cells of a row follow those of the row before. -/
theorem zigzagRank_of_mem_row {k p t : Nat} (hp : p < k) (ht : t < 2 * k + 1) {c : Cell}
    (hc : c ∈ [traversalCell k p t 0, traversalCell k p t 1]) : zigzagRank (2 * k + 1) c / 2 = p * (2 * k + 1) + t := by
  obtain ⟨j, hj, rfl⟩ : ∃ j < 2, traversalCell k p t j = c := by
    rcases List.mem_cons.mp hc with rfl | hc
    · exact ⟨0, by decide, rfl⟩
    · exact ⟨1, by decide, (List.mem_singleton.mp hc).symm⟩
  rw [zigzagRank_traversalCell hp ht hj]
  omega

theorem traversal_pairwise (k : Nat) :
    (traversal k).Pairwise fun c c' => zigzagRank (2 * k + 1) c < zigzagRank (2 * k + 1) c' := by
  rw [traversal, List.pairwise_flatMap]
  refine ⟨fun p hp => ?_, ?_⟩
  · have hp := List.mem_range.mp hp
    rw [List.pairwise_flatMap]
    refine ⟨fun t ht => List.pairwise_pair.mpr ?_, ?_⟩
    · have ht := List.mem_range.mp ht
      rw [zigzagRank_traversalCell hp ht (by decide), zigzagRank_traversalCell hp ht (by decide)]
      exact Nat.lt_succ_self _
    · refine List.pairwise_lt_range.imp_of_mem fun ht ht' hlt c hc c' hc' => ?_
      have hrank := zigzagRank_of_mem_row hp (List.mem_range.mp ht) hc
      have hrank' := zigzagRank_of_mem_row hp (List.mem_range.mp ht') hc'
      omega
  · refine List.pairwise_lt_range.imp_of_mem fun hp hp' hlt c hc c' hc' => ?_
    obtain ⟨t, ht, hc⟩ := List.mem_flatMap.mp hc
    obtain ⟨t', ht', hc'⟩ := List.mem_flatMap.mp hc'
    have hrank := zigzagRank_of_mem_row (List.mem_range.mp hp) (List.mem_range.mp ht) hc
    have hrank' := zigzagRank_of_mem_row (List.mem_range.mp hp') (List.mem_range.mp ht') hc'
    have hrow := List.mem_range.mp ht
    have hsweep := Nat.mul_le_mul_right (2 * k + 1) (Nat.succ_le_of_lt hlt)
    rw [Nat.succ_mul] at hsweep
    omega

theorem mem_traversal {k : Nat} {c : Cell} :
    c ∈ traversal k ↔ ∃ p < k, ∃ t < 2 * k + 1, ∃ j < 2, c = traversalCell k p t j := by
  simp only [traversal, List.mem_flatMap, List.mem_range, List.mem_cons, List.not_mem_nil, or_false]
  refine exists_congr fun p => and_congr_right fun _ => exists_congr fun t => and_congr_right fun _ => ?_
  constructor
  · rintro (h | h)
    · exact ⟨0, by decide, h⟩
    · exact ⟨1, by decide, h⟩
  · rintro ⟨j, hj, h⟩
    obtain rfl | rfl : j = 0 ∨ j = 1 := by omega
    · exact .inl h
    · exact .inr h

theorem pairColumn_bounds {q k j : Nat} (hq : 1 ≤ q) (hk : q ≤ k) (hj : j < 2) :
    pairColumn q - j < 2 * k + 1 ∧ pairColumn q - j ≠ 6 := by
  unfold pairColumn
  split <;> omega

/-- Every column but 6 is in a pair. -/
theorem exists_pairColumn {k x : Nat} (hk : 3 ≤ k) (hx : x < 2 * k + 1) (h6 : x ≠ 6) :
    ∃ p < k, ∃ j < 2, x = pairColumn (k - p) - j := by
  by_cases hright : 6 < x
  · refine ⟨k - (x + 1) / 2, by omega, x % 2, by omega, ?_⟩
    rw [pairColumn, if_pos (by omega)]
    omega
  · refine ⟨k - (x + 2) / 2, by omega, 1 - x % 2, by omega, ?_⟩
    rw [pairColumn, if_neg (by omega)]
    omega

theorem mem_traversal_iff {k : Nat} (hk : 3 ≤ k) {c : Cell} :
    c ∈ traversal k ↔ c.1 < 2 * k + 1 ∧ c.2 < 2 * k + 1 ∧ c.1 ≠ 6 := by
  rw [mem_traversal]
  constructor
  · rintro ⟨p, hp, t, ht, j, hj, rfl⟩
    obtain ⟨hx, h6⟩ := pairColumn_bounds (q := k - p) (k := k) (by omega) (by omega) hj
    refine ⟨hx, ?_, h6⟩
    show (if p % 2 = 0 then 2 * k - t else t) < 2 * k + 1
    split <;> omega
  · rintro ⟨hx, hy, h6⟩
    obtain ⟨p, hp, j, hj, hcol⟩ := exists_pairColumn hk hx h6
    refine ⟨p, hp, if p % 2 = 0 then 2 * k - c.2 else c.2, by split <;> omega, j, hj, Prod.ext hcol ?_⟩
    show c.2 = if p % 2 = 0 then 2 * k - (if p % 2 = 0 then 2 * k - c.2 else c.2) else if p % 2 = 0 then _ else c.2
    split <;> omega

/-- Settles O46: the traversal passes every cell outside column 6 in the order of the ranks, and the free ones are kept. -/
theorem zigzagOrder : Obligations.ZigzagOrder := by
  intro v r _ _
  obtain ⟨k, hk, hside⟩ : ∃ k, 3 ≤ k ∧ 21 + 4 * (v - 1) = 2 * k + 1 := ⟨10 + 2 * (v - 1), by omega, by omega⟩
  simp only [hside, zigzag_eq_filter hk r]
  refine ⟨fun c => ?_, (traversal_pairwise k).filter _⟩
  rw [List.mem_filter, mem_traversal_iff hk, Bool.not_eq_true']
  simp only [and_assoc]

end Sys2Proof.Machine

/-! ## Placing the stream -/

namespace Sys2Proof.Machine

open Sys2Proof.Safety

/-! ### The traversal of a grid that is ready -/

/-- The traversal visits no cell twice. -/
theorem zigzag_nodup {v : Nat} (h1 : 1 ≤ v) (h40 : v ≤ 40) (r : Grid) : (zigzag (21 + 4 * (v - 1)) r).Nodup :=
  (zigzagOrder v r h1 h40).2.imp fun {c c'} hlt (heq : c = c') => Nat.lt_irrefl _ (heq ▸ hlt)

theorem mem_zigzag_iff {s : State} (h : GridReady s) {x y : Nat} :
    (x, y) ∈ zigzag s.size s.r ↔ x < s.size ∧ y < s.size ∧ x ≠ 6 ∧ s.r.get x y = false := by
  rw [h.side]
  exact (zigzagOrder s.tier s.r h.tier.1 h.tier.2).1 (x, y)

/-! ### Step 7 (R261) -/

/-- After step 7 (R261). -/
def State.placed (s : State) : State := { s with g := s.g.setAll ((zigzag s.size s.r).zip s.final), ms := .placed }

section Place

variable {s : State} (hms : s.ms = .fixed) (hds : s.ds = .final)

include hms hds

theorem opMxPlace_done (hlen : (zigzag s.size s.r).length = s.final.length) :
    opMxPlace s = .done s.placed s.final.length :=
  (if_neg (not_not_intro ⟨hms, hds⟩)).trans (if_neg (not_not_intro hlen))

theorem opMxPlace_raised (hlen : (zigzag s.size s.r).length ≠ s.final.length) :
    opMxPlace s = .raised s .lengthError s.final.length :=
  (if_neg (not_not_intro ⟨hms, hds⟩)).trans (if_pos hlen)

end Place

theorem placed_g_of_notMem {s : State} {c : Cell} (h : c ∉ zigzag s.size s.r) :
    s.placed.g.get c.1 c.2 = s.g.get c.1 c.2 := by
  refine get_setAll_of_notMem s.g fun hmem => ?_
  obtain ⟨w, hzip, hw⟩ := List.mem_map.mp hmem
  exact h ((show w.1 = c from hw) ▸ (List.of_mem_zip hzip).1)

/-- Cell `i` of the traversal gets bit `i`. -/
theorem placed_g_of_getElem? {s : State} (h : GridReady s) {i : Nat} {c : Cell} {b : Bool}
    (hc : (zigzag s.size s.r)[i]? = some c) (hb : s.final[i]? = some b) : s.placed.g.get c.1 c.2 = b := by
  obtain ⟨hx, hy, -⟩ := (mem_zigzag_iff h).mp (List.mem_of_getElem? hc)
  have hnodup := zigzag_nodup h.tier.1 h.tier.2 s.r
  rw [← h.side] at hnodup
  refine Grid.get_setAll_mem h.gridG _ hx hy (List.mem_of_getElem? (List.getElem?_zip_eq_some.mpr ⟨hc, hb⟩))
    fun w hw hcell => ?_
  obtain ⟨j, hj⟩ := List.mem_iff_getElem?.mp hw
  obtain ⟨hcj, hbj⟩ := List.getElem?_zip_eq_some.mp hj
  obtain rfl : i = j := (List.getElem?_inj (List.getElem?_eq_some_iff.mp hc).1 hnodup).mp (hc.trans (hcell ▸ hcj).symm)
  exact Option.some.inj (hbj.symm.trans hb)

/-- Settles O47: the traversal visits each free cell once, so each has the bit with its number. -/
theorem mxPlaceFillsFreeCells : Obligations.MxPlaceFillsFreeCells := by
  intro s hlive
  refine ⟨decode_encode .mxPlace, fun hms hds hlen => ?_, fun hms hds hlen => ?_, fun h => exec_of_raised hlive (if_pos h)⟩
  · refine ⟨_, exec_of_done (i := .mxPlace) (.inr hlive) (opMxPlace_done hms hds hlen), rfl,
      fun c => placed_g_of_notMem, fun hready i c b => placed_g_of_getElem? hready, fun hready h6 x y hx hy hfree => ?_⟩
    have hmem : (x, y) ∈ zigzag s.size s.r :=
      (mem_zigzag_iff hready).mpr ⟨hx, hy, fun e => Bool.false_ne_true (hfree.symm.trans (e ▸ h6 y hy)), hfree⟩
    obtain ⟨i, hi, hc⟩ := List.mem_iff_getElem.mp hmem
    have hc := List.getElem?_eq_some_iff.mpr ⟨hi, hc⟩
    have hb := List.getElem?_eq_getElem (hlen ▸ hi)
    exact ⟨i, _, hc, hb, placed_g_of_getElem? hready hc hb⟩
  · exact exec_of_raised (i := .mxPlace) hlive (opMxPlace_raised hms hds hlen)

end Sys2Proof.Machine

/-! ## The alignment patterns -/

namespace Sys2Proof.Machine

open Sys2Proof.Safety

/-! ### Candidates apart from one another (R255, R256) -/

/-- The footprints of two candidates, from their corners on, have no cell in common. -/
def Apart (c c' : Cell) : Prop :=
  c.1 - 2 + 5 ≤ c'.1 - 2 ∨ c'.1 - 2 + 5 ≤ c.1 - 2 ∨ c.2 - 2 + 5 ≤ c'.2 - 2 ∨ c'.2 - 2 + 5 ≤ c.2 - 2

theorem Apart.notMem {c c' : Cell} (h : Apart c c') {rom : Rom} {x y : Nat}
    (hmem : (x, y) ∈ (alignCells rom c).map Prod.fst) : (x, y) ∉ (alignCells rom c').map Prod.fst := by
  rw [mem_alignCells] at hmem ⊢
  unfold Apart at h
  omega

/-- Stamping `k` patterns. -/
def State.stampPatterns (s : State) (cells : List (Cell × Bool)) (k : Nat) : State :=
  { s.stamp cells with nstamp := s.nstamp + k }

section Patterns

variable (s : State) (cells : List (Cell × Bool)) (k : Nat)

@[simp] theorem stampPatterns_rom : (s.stampPatterns cells k).rom = s.rom := rfl

@[simp] theorem stampPatterns_g : (s.stampPatterns cells k).g = s.g.setAll cells := rfl

@[simp] theorem stampPatterns_r : (s.stampPatterns cells k).r = (s.stamp cells).r := rfl

@[simp] theorem stampPatterns_nstamp : (s.stampPatterns cells k).nstamp = s.nstamp + k := rfl

end Patterns

theorem stampPatterns_append (s : State) (ws ws' : List (Cell × Bool)) (k k' : Nat) :
    (s.stampPatterns ws k).stampPatterns ws' k' = s.stampPatterns (ws ++ ws') (k' + k) := by
  simp [State.stampPatterns, State.stamp, Grid.setAll, Nat.add_assoc, Nat.add_comm k]

theorem alignOne_of_reserved {s : State} {c : Cell} (h : footprintReserved s.rom s.r c = true) : s.alignOne c = s :=
  if_pos h

theorem alignOne_of_free {s : State} {c : Cell} (h : footprintReserved s.rom s.r c = false) :
    s.alignOne c = s.stampPatterns (alignCells s.rom c) 1 :=
  if_neg (Bool.eq_false_iff.mp h)

theorem stamp_r_of_notMem {s : State} {cells : List (Cell × Bool)} {x y : Nat} (h : (x, y) ∉ cells.map Prod.fst) :
    (s.stamp cells).r.get x y = s.r.get x y := by
  rw [State.stamp_r]
  refine get_setAll_of_notMem s.r ?_
  rw [List.map_map]
  exact h

/-- Stamping a footprint changes nothing in one apart from it. -/
theorem footprintReserved_of_apart {s : State} {c c' : Cell} (h : Apart c c') :
    footprintReserved s.rom (s.stamp (alignCells s.rom c)).r c' = footprintReserved s.rom s.r c' := by
  rw [Bool.eq_iff_iff, footprintReserved_iff, footprintReserved_iff]
  refine exists_congr fun x => exists_congr fun y => and_congr_right fun hmem => ?_
  have hout : (x, y) ∉ (alignCells s.rom c).map Prod.fst := fun hin => h.notMem hin hmem
  rw [stamp_r_of_notMem hout]

/-- Candidates apart from one another, of which those to be kept are free at the start and the others are not: the former
are stamped whole. -/
theorem foldl_alignOne {s : State} {keep : Cell → Bool} {cs : List Cell}
    (hkeep : ∀ c ∈ cs, footprintReserved s.rom s.r c = !keep c) (hapart : cs.Pairwise Apart) :
    cs.foldl State.alignOne s =
      s.stampPatterns ((cs.filter keep).flatMap (alignCells s.rom)) (cs.filter keep).length := by
  induction cs generalizing s with
  | nil => rfl
  | cons c cs ih =>
    obtain ⟨hhead, htail⟩ := List.forall_mem_cons.mp hkeep
    obtain ⟨hfar, hrest⟩ := List.pairwise_cons.mp hapart
    rw [List.foldl_cons]
    cases hc : keep c with
    | false =>
      rw [hc] at hhead
      rw [alignOne_of_reserved hhead, ih htail hrest, List.filter_cons_of_neg (Bool.eq_false_iff.mp hc)]
    | true =>
      rw [hc] at hhead
      have hfree : ∀ c' ∈ cs, footprintReserved s.rom (s.stamp (alignCells s.rom c)).r c' = !keep c' :=
        fun c' hc' => (footprintReserved_of_apart (hfar c' hc')).trans (htail c' hc')
      rw [alignOne_of_free hhead, ih (by rwa [stampPatterns_rom, stampPatterns_r]) hrest, stampPatterns_append,
        stampPatterns_rom, List.filter_cons_of_pos hc, List.flatMap_cons, List.length_cons]

/-! ### The candidates of a printed tier (R39) -/

/-- The coordinates of a tier are in order, five cells and more between them, and its patterns are as many as R256 says. -/
theorem standard_row_al {v : Nat} (h1 : 1 ≤ v) (h40 : v ≤ 40) :
    (Rom.standard.row v).al.Pairwise (fun a b => a + 5 ≤ b) ∧
    (alignmentCentres (Rom.standard.row v).al (Rom.standard.row v).side).length = (Rom.standard.row v).al.length ^ 2 - 3 := by
  have all : ∀ v < 41, 1 ≤ v → (Rom.standard.row v).al.Pairwise (fun a b => a + 5 ≤ b) ∧
      (alignmentCentres (Rom.standard.row v).al (Rom.standard.row v).side).length =
        (Rom.standard.row v).al.length ^ 2 - 3 := by decide +kernel
  exact all v (by omega) h1

theorem alignCandidates_apart {al : List Nat} (h : al.Pairwise fun a b => a + 5 ≤ b) (h6 : ∀ a ∈ al, 6 ≤ a) :
    (alignCandidates al).Pairwise Apart := by
  rw [alignCandidates, List.pairwise_flatMap]
  refine ⟨fun cx _ => ?_, h.imp_of_mem fun {cx cx'} hcx hcx' hlt => ?_⟩
  · refine List.pairwise_map.mpr (h.imp_of_mem fun {cy cy'} hcy hcy' hlt => ?_)
    have hmin := h6 cy hcy
    unfold Apart
    omega
  · intro c hc c' hc'
    obtain ⟨cy, -, rfl⟩ := List.mem_map.mp hc
    obtain ⟨cy', -, rfl⟩ := List.mem_map.mp hc'
    have hmin := h6 cx hcx
    unfold Apart
    omega

/-- Where a coordinate of a tier of side `n` lies. -/
def OnAxis (n a : Nat) : Prop := a = 6 ∨ a + 7 = n ∨ 16 ≤ a ∧ a + 16 ≤ n

theorem alignCandidates_onAxis {s : State} (h : GridReady s) {c : Cell} (hc : c ∈ alignCandidates s.row.al) :
    OnAxis s.size c.1 ∧ OnAxis s.size c.2 := by
  obtain ⟨cx, hcx, cy, hcy, rfl⟩ : ∃ cx ∈ s.row.al, ∃ cy ∈ s.row.al, (cx, cy) = c := by
    simpa [alignCandidates] using hc
  obtain ⟨hside, hal⟩ := standard_row_side h.tier.1 h.tier.2
  rw [hside, ← h.side, ← h.rom] at hal
  exact ⟨hal cx hcx, hal cy hcy⟩

/-- Whether a candidate is none of the three on the locators. -/
def offLocators (n : Nat) (c : Cell) : Bool := !(c == (6, 6) || c == (6, n - 7) || c == (n - 7, 6))

theorem alignmentCentres_eq (al : List Nat) (n : Nat) :
    alignmentCentres al n = (alignCandidates al).filter (offLocators n) := rfl

theorem offLocators_iff {n : Nat} {c : Cell} : offLocators n c = true ↔
    ¬ (c.1 = 6 ∧ c.2 = 6) ∧ ¬ (c.1 = 6 ∧ c.2 = n - 7) ∧ ¬ (c.1 = n - 7 ∧ c.2 = 6) := by
  simp [offLocators, Prod.ext_iff, and_assoc]

/-- With the locators and the separators reserved and nothing else, the candidates on the locators alone meet a reserved
cell (R255). -/
theorem footprintReserved_eq {s : State} (h : GridReady s)
    (hr : ∀ x y, x < s.size → y < s.size →
      s.r.get x y = ((locatorAt s.size x y).isSome || isSeparator s.size x y))
    {c : Cell} (hc : c ∈ alignCandidates s.row.al) :
    footprintReserved s.rom s.r c = !offLocators s.size c := by
  have hn := side_of_gridReady h
  obtain ⟨hx, hy⟩ := alignCandidates_onAxis h hc
  unfold OnAxis at hx hy
  cases hoff : offLocators s.size c with
  | true =>
    rw [offLocators_iff] at hoff
    refine Bool.eq_false_iff.mpr fun hres => ?_
    obtain ⟨x, y, hmem, hget⟩ := (footprintReserved_iff ..).mp hres
    obtain ⟨hxn, hyn⟩ := lt_of_get h.gridR hget
    rw [hr x y hxn hyn, Bool.or_eq_true, isSome_locatorAt, isSeparator_iff] at hget
    rw [mem_alignCells] at hmem
    rcases hx with hx | hx | hx <;> rcases hy with hy | hy | hy <;> omega
  | false =>
    have hon := mt offLocators_iff.mpr (Bool.eq_false_iff.mp hoff)
    refine (footprintReserved_iff ..).mpr ⟨c.1, c.2, mem_alignCells.mpr (by omega), ?_⟩
    rw [hr c.1 c.2 (by omega) (by omega), isSome_locatorAt.mpr (by omega), Bool.true_or]

/-! ### The patterns with their bits (R40, R256) -/

theorem inFootprint_iff {c : Cell} {x y : Nat} : inFootprint c x y = true ↔
    c.1 ≤ x + 2 ∧ x ≤ c.1 + 2 ∧ c.2 ≤ y + 2 ∧ y ≤ c.2 + 2 := by
  simp [inFootprint, and_assoc]

theorem alignBit_eq_ring {c : Cell} {x y : Nat} (hc : 2 ≤ c.1 ∧ 2 ≤ c.2) (hin : inFootprint c x y = true) :
    alignBit (x - (c.1 - 2)) (y - (c.2 - 2)) = (ring c x y != 1) := by
  rw [inFootprint_iff] at hin
  have hring : max (max (x - (c.1 - 2)) 2 - min (x - (c.1 - 2)) 2) (max (y - (c.2 - 2)) 2 - min (y - (c.2 - 2)) 2) =
      ring c x y := by
    unfold ring
    omega
  rw [alignBit, hring]

theorem mem_alignCells_standard {c : Cell} {x y : Nat} {v : Bool} (hc : 2 ≤ c.1 ∧ 2 ≤ c.2) :
    ((x, y), v) ∈ alignCells Rom.standard c ↔ inFootprint c x y = true ∧ (ring c x y != 1) = v := by
  rw [alignCells, show Rom.standard.alignp = bitTable 5 alignBit from rfl, mem_patternCells_bitTable]
  have hrange : ((c.1 - 2 ≤ x ∧ x < c.1 - 2 + 5) ∧ c.2 - 2 ≤ y ∧ y < c.2 - 2 + 5) ↔ inFootprint c x y = true := by
    rw [inFootprint_iff]
    omega
  rw [hrange]
  exact and_congr_right fun hin => by rw [alignBit_eq_ring hc hin]

theorem Apart.not_inFootprint {c c' : Cell} (h : Apart c c') {x y : Nat} (hin : inFootprint c x y = true) :
    ¬ inFootprint c' x y = true := by
  rw [inFootprint_iff] at hin ⊢
  unfold Apart at h
  omega

/-- Of centres apart from one another one at most has a cell in its footprint. -/
theorem eq_of_inFootprint {cs : List Cell} (hapart : cs.Pairwise Apart) {c c' : Cell} (hc : c ∈ cs) (hc' : c' ∈ cs)
    {x y : Nat} (hin : inFootprint c x y = true) (hin' : inFootprint c' x y = true) : c = c' := by
  induction hapart with
  | nil => exact absurd hc List.not_mem_nil
  | cons hfar _ ih =>
    rcases List.mem_cons.mp hc with heq | htail <;> rcases List.mem_cons.mp hc' with heq' | htail'
    · exact heq.trans heq'.symm
    · exact absurd hin' ((hfar c' htail').not_inFootprint (heq ▸ hin))
    · exact absurd hin ((hfar c htail).not_inFootprint (heq' ▸ hin'))
    · exact ih htail htail'

theorem mem_flatMap_alignCells {cs : List Cell} (hapart : cs.Pairwise Apart) (hbound : ∀ c ∈ cs, 2 ≤ c.1 ∧ 2 ≤ c.2)
    {x y : Nat} {v : Bool} : ((x, y), v) ∈ cs.flatMap (alignCells Rom.standard) ↔
      (cs.find? (inFootprint · x y)).map (fun c => ring c x y != 1) = some v := by
  rw [List.mem_flatMap, Option.map_eq_some_iff]
  constructor
  · rintro ⟨c, hc, hmem⟩
    obtain ⟨hin, hbit⟩ := (mem_alignCells_standard (hbound c hc)).mp hmem
    obtain ⟨c', hfind⟩ := Option.isSome_iff_exists.mp (List.find?_isSome (p := (inFootprint · x y)).mpr ⟨c, hc, hin⟩)
    have hin' : inFootprint c' x y = true := List.find?_some (p := (inFootprint · x y)) hfind
    obtain rfl := eq_of_inFootprint hapart hc (List.mem_of_find?_eq_some hfind) hin hin'
    exact ⟨c, hfind, hbit⟩
  · rintro ⟨c, hfind, hbit⟩
    have hc := List.mem_of_find?_eq_some hfind
    have hin : inFootprint c x y = true := List.find?_some (p := (inFootprint · x y)) hfind
    exact ⟨c, hc, (mem_alignCells_standard (hbound c hc)).mpr ⟨hin, hbit⟩⟩

/-! ### Step 3 (R256) -/

section Step3

variable {s : State} (h : GridReady s)
  (hr : ∀ x y, x < s.size → y < s.size → s.r.get x y = ((locatorAt s.size x y).isSome || isSeparator s.size x y))

include h

theorem row_al_of_gridReady : s.row.al.Pairwise (fun a b => a + 5 ≤ b) ∧
    (alignmentCentres s.row.al s.size).length = s.row.al.length ^ 2 - 3 := by
  have hal := standard_row_al h.tier.1 h.tier.2
  rwa [(standard_row_side h.tier.1 h.tier.2).1, ← h.side, ← h.rom] at hal

theorem candidates_bound {c : Cell} (hc : c ∈ alignCandidates s.row.al) : 2 ≤ c.1 ∧ 2 ≤ c.2 := by
  have hn := side_of_gridReady h
  obtain ⟨hx, hy⟩ := alignCandidates_onAxis h hc
  unfold OnAxis at hx hy
  omega

theorem candidates_apart : (alignCandidates s.row.al).Pairwise Apart := by
  refine alignCandidates_apart (row_al_of_gridReady h).1 fun a ha => ?_
  have hn := side_of_gridReady h
  obtain ⟨hx, -⟩ := alignCandidates_onAxis h (c := (a, a)) (by simpa [alignCandidates] using ha)
  unfold OnAxis at hx
  omega

theorem mem_patterns {x y : Nat} {v : Bool} :
    ((x, y), v) ∈ (alignmentCentres s.row.al s.size).flatMap (alignCells s.rom) ↔
      alignmentAt s.row.al s.size x y = some v := by
  rw [h.rom]
  exact mem_flatMap_alignCells ((candidates_apart h).filter _)
    fun c hc => candidates_bound h (List.mem_filter.mp hc).1

include hr

/-- Step 3 stamps the patterns of the centres off the locators. -/
theorem aligned_eq : s.aligned =
    ({ s with nstamp := 0 } : State).stampPatterns ((alignmentCentres s.row.al s.size).flatMap (alignCells s.rom))
      (s.row.al.length ^ 2 - 3) := by
  rw [← (row_al_of_gridReady h).2, alignmentCentres_eq]
  exact foldl_alignOne (s := { s with nstamp := 0 }) (fun c hc => footprintReserved_eq h hr hc) (candidates_apart h)

theorem patterned_nstamp : s.patterned.nstamp = s.row.al.length ^ 2 - 3 := by
  rw [State.patterned, aligned_eq h hr, stampPatterns_nstamp, Nat.zero_add]

variable {x y : Nat} (hx : x < s.size) (hy : y < s.size)

include hx hy

theorem patterned_g : s.patterned.g.get x y = (alignmentAt s.row.al s.size x y).getD (s.g.get x y) := by
  rw [State.patterned, aligned_eq h hr, stampPatterns_g]
  exact get_setAll_eq h.gridG hx hy fun v => mem_patterns h

theorem patterned_r : s.patterned.r.get x y = ((alignmentAt s.row.al s.size x y).isSome || s.r.get x y) := by
  rw [State.patterned, aligned_eq h hr, stampPatterns_r]
  exact get_stamp_r (s := { s with nstamp := 0 }) h.gridR hx hy fun v => mem_patterns h

end Step3

/-- Settles O45: the candidates keep apart, so those off the locators are free when they are visited and their patterns are
stamped whole. -/
theorem mxAlignStampsPatterns : Obligations.MxAlignStampsPatterns := by
  intro s hlive
  refine ⟨decode_encode .mxAlign, fun h => exec_of_raised hlive (if_pos h), fun hms => ?_⟩
  refine ⟨_, exec_of_done (i := .mxAlign) (.inr hlive) (opMxAlign_done hms), ?_, fun hready hr => ?_⟩
  · exact congrArg (fun u : State => { u with ms := .align, resp := ok u.nstamp }) (aligned_frame s)
  · exact ⟨patterned_nstamp hready hr, fun x y hx hy => ⟨patterned_g hready hr hx hy, patterned_r hready hr hx hy⟩⟩

end Sys2Proof.Machine

/-! ## How many cells are free -/

namespace Sys2Proof.Machine

open Sys2Proof.Safety

/-! ### Blocks of cells -/

/-- A rectangle of `w` columns and `h` rows with its first cell at `(x, y)`. -/
structure Block where
  x : Nat
  y : Nat
  w : Nat
  h : Nat

/-- The cells of a block. -/
def Block.cells (b : Block) : List Cell := (List.range' b.x b.w).flatMap fun x => (List.range' b.y b.h).map fun y => (x, y)

/-- Two blocks have no cell in common. -/
abbrev Block.Apart (b c : Block) : Prop := b.x + b.w ≤ c.x ∨ c.x + c.w ≤ b.x ∨ b.y + b.h ≤ c.y ∨ c.y + c.h ≤ b.y

/-- The cells of some blocks. -/
def cellsOf (bs : List Block) : List Cell := bs.flatMap Block.cells

theorem mem_cells {b : Block} {x y : Nat} :
    (x, y) ∈ b.cells ↔ (b.x ≤ x ∧ x < b.x + b.w) ∧ b.y ≤ y ∧ y < b.y + b.h := by
  simp only [Block.cells, List.mem_flatMap, List.mem_map, List.mem_range'_1]
  constructor
  · rintro ⟨_, hx, _, hy, heq⟩
    obtain ⟨rfl, rfl⟩ := Prod.mk.inj heq
    exact ⟨hx, hy⟩
  · rintro ⟨hx, hy⟩
    exact ⟨x, hx, y, hy, rfl⟩

theorem length_cells (b : Block) : b.cells.length = b.w * b.h := by
  simp only [Block.cells, List.length_flatMap, List.length_map, List.length_range', List.map_const', List.sum_replicate_nat]

/-- A block lists its cells column by column, from the bottom. -/
theorem nodup_cells (b : Block) : b.cells.Nodup := by
  refine List.pairwise_flatMap.mpr ⟨fun x _ => List.pairwise_map.mpr ?_, ?_⟩
  · exact (List.pairwise_lt_range' 1).imp fun hlt heq => Nat.ne_of_lt hlt (Prod.mk.inj heq).2
  · refine (List.pairwise_lt_range' 1).imp fun hlt c hc c' hc' heq => ?_
    obtain ⟨y, -, rfl⟩ := List.mem_map.mp hc
    obtain ⟨y', -, rfl⟩ := List.mem_map.mp hc'
    exact Nat.ne_of_lt hlt (Prod.mk.inj heq).1

theorem mem_cellsOf {bs : List Block} {c : Cell} : c ∈ cellsOf bs ↔ ∃ b ∈ bs, c ∈ b.cells :=
  List.mem_flatMap

theorem mem_cellsOf_cons {b : Block} {bs : List Block} {x y : Nat} : (x, y) ∈ cellsOf (b :: bs) ↔
    ((b.x ≤ x ∧ x < b.x + b.w) ∧ b.y ≤ y ∧ y < b.y + b.h) ∨ (x, y) ∈ cellsOf bs := by
  rw [cellsOf, List.flatMap_cons, List.mem_append, mem_cells]
  exact Iff.rfl

theorem notMem_cellsOf_nil {c : Cell} : c ∉ cellsOf [] := List.not_mem_nil

theorem length_cellsOf (bs : List Block) : (cellsOf bs).length = (bs.map fun b => b.w * b.h).sum := by
  simp only [cellsOf, List.length_flatMap, length_cells]

theorem nodup_cellsOf {bs : List Block} (h : bs.Pairwise Block.Apart) : (cellsOf bs).Nodup := by
  refine List.pairwise_flatMap.mpr ⟨fun b _ => nodup_cells b, h.imp fun {b b'} hapart c hc c' hc' heq => ?_⟩
  subst heq
  rw [mem_cells] at hc hc'
  omega

/-! ### The blocks the steps 1 to 6 reserve -/

/-- A pattern of R255 without the cells it shares with a timing strip. -/
def patternBlocks (c : Cell) : List Block :=
  if c.2 = 6 then [⟨c.1 - 2, 4, 5, 2⟩, ⟨c.1 - 2, 7, 5, 2⟩]
  else if c.1 = 6 then [⟨4, c.2 - 2, 2, 5⟩, ⟨7, c.2 - 2, 2, 5⟩]
  else [⟨c.1 - 2, c.2 - 2, 5, 5⟩]

/-- The three corners with the separators and the format areas, the timing strips between them, the version areas. -/
def frameBlocks (tier n : Nat) : List Block :=
  [⟨0, 0, 9, 9⟩, ⟨n - 8, 0, 8, 9⟩, ⟨0, n - 8, 9, 8⟩, ⟨9, 6, n - 17, 1⟩, ⟨6, 9, 1, n - 17⟩] ++
  if 7 ≤ tier then [⟨0, n - 11, 6, 3⟩, ⟨n - 11, 0, 3, 6⟩] else []

/-- Every cell steps 1 to 6 reserve, in blocks apart from one another. -/
def fixedBlocks (tier n : Nat) (al : List Nat) : List Block :=
  frameBlocks tier n ++ (alignmentCentres al n).flatMap patternBlocks

/-- The blocks of a tier are apart, lie in the grid, and leave as many cells as the stream has bits. -/
abbrev BlocksTile (tier : Nat) (row : TierRow) : Prop :=
  (fixedBlocks tier row.side row.al).Pairwise Block.Apart ∧
  (∀ b ∈ fixedBlocks tier row.side row.al, b.x + b.w ≤ row.side ∧ b.y + b.h ≤ row.side) ∧
  8 * row.tc + row.rem + ((fixedBlocks tier row.side row.al).map fun b => b.w * b.h).sum = row.side * row.side

theorem standard_row_blocksTile {v : Nat} (h1 : 1 ≤ v) (h40 : v ≤ 40) : BlocksTile v (Rom.standard.row v) := by
  have all : ∀ v < 41, 1 ≤ v → BlocksTile v (Rom.standard.row v) := by decide +kernel
  exact all v (by omega) h1

/-! ### The reserved cells are the cells of the blocks -/

theorem mem_cellsOf_append {bs bs' : List Block} {c : Cell} :
    c ∈ cellsOf (bs ++ bs') ↔ c ∈ cellsOf bs ∨ c ∈ cellsOf bs' := by
  simp only [mem_cellsOf, List.mem_append, or_and_right, exists_or]

theorem mem_cellsOf_flatMap {α : Type} {f : α → List Block} {l : List α} {c : Cell} :
    c ∈ cellsOf (l.flatMap f) ↔ ∃ a ∈ l, c ∈ cellsOf (f a) := by
  simp only [mem_cellsOf, List.mem_flatMap]
  constructor
  · rintro ⟨b, ⟨a, ha, hb⟩, hc⟩
    exact ⟨a, ha, b, hb, hc⟩
  · rintro ⟨a, ha, b, hb, hc⟩
    exact ⟨b, ⟨a, ha, hb⟩, hc⟩

/-- The three corners with a locator, its separators and its format areas. -/
def InCorner (n x y : Nat) : Prop := x < 9 ∧ y < 9 ∨ n - 8 ≤ x ∧ y < 9 ∨ x < 9 ∧ n - 8 ≤ y

theorem inCorner_iff {n x y : Nat} (hn : 21 ≤ n) (hx : x < n) (hy : y < n) : InCorner n x y ↔
    isFormat n x y = true ∨ isSeparator n x y = true ∨ (locatorAt n x y).isSome = true := by
  unfold InCorner
  constructor
  · intro h
    by_cases hloc : (x < 7 ∨ n - 7 ≤ x) ∧ (y < 7 ∨ n - 7 ≤ y)
    · exact .inr (.inr (isSome_locatorAt.mpr (by omega)))
    by_cases hsep : (x < 8 ∨ n - 8 ≤ x) ∧ (y < 8 ∨ n - 8 ≤ y)
    · exact .inr (.inl (isSeparator_iff.mpr (by omega)))
    · exact .inl (isFormat_iff.mpr (by omega))
  · rw [isFormat_iff, isSeparator_iff, isSome_locatorAt]
    omega

theorem mem_frameBlocks {v n x y : Nat} (hn : 21 ≤ n) (hx : x < n) (hy : y < n) :
    (x, y) ∈ cellsOf (frameBlocks v n) ↔
      (InCorner n x y ∨ 9 ≤ x ∧ x + 9 ≤ n ∧ y = 6 ∨ 9 ≤ y ∧ y + 9 ≤ n ∧ x = 6) ∨ isVersion v n x y = true := by
  rw [frameBlocks, mem_cellsOf_append]
  refine or_congr ?_ ?_
  · simp only [mem_cellsOf_cons, notMem_cellsOf_nil, or_false]
    unfold InCorner
    omega
  · rw [isVersion_iff]
    split
    next hv =>
      simp only [mem_cellsOf_cons, notMem_cellsOf_nil, or_false]
      omega
    next hv => simp [notMem_cellsOf_nil, hv]

/-- Where the steps but the third reserve cells (R253, R254, R257 to R259). -/
theorem mem_frameBlocks_iff {v n x y : Nat} (hn : n = 21 + 4 * (v - 1)) (hv : 1 ≤ v) (hx : x < n) (hy : y < n) :
    (x, y) ∈ cellsOf (frameBlocks v n) ↔ isFormat n x y = true ∨ isVersion v n x y = true ∨
      (x = 8 ∧ y = 4 * v + 9) ∨ isTiming n x y = true ∨ isSeparator n x y = true ∨ (locatorAt n x y).isSome = true := by
  have hcorner := inCorner_iff (n := n) (x := x) (y := y) (by omega) hx hy
  have hdark : x = 8 ∧ y = 4 * v + 9 → InCorner n x y := fun h => .inr (.inr (by omega))
  have htiming : isTiming n x y = true → InCorner n x y ∨ 9 ≤ x ∧ x + 9 ≤ n ∧ y = 6 ∨ 9 ≤ y ∧ y + 9 ≤ n ∧ x = 6 := by
    rw [isTiming_iff]
    unfold InCorner
    omega
  have hstrip : 9 ≤ x ∧ x + 9 ≤ n ∧ y = 6 ∨ 9 ≤ y ∧ y + 9 ≤ n ∧ x = 6 → isTiming n x y = true := by
    rw [isTiming_iff]
    omega
  rw [mem_frameBlocks (by omega) hx hy]
  constructor
  · rintro ((h | h) | h)
    · obtain h | h | h := hcorner.mp h
      · exact .inl h
      · exact .inr (.inr (.inr (.inr (.inl h))))
      · exact .inr (.inr (.inr (.inr (.inr h))))
    · exact .inr (.inr (.inr (.inl (hstrip h))))
    · exact .inr (.inl h)
  · rintro (h | h | h | h | h | h)
    · exact .inl (.inl (hcorner.mpr (.inl h)))
    · exact .inr h
    · exact .inl (.inl (hdark h))
    · exact .inl (htiming h)
    · exact .inl (.inl (hcorner.mpr (.inr (.inl h))))
    · exact .inl (.inl (hcorner.mpr (.inr (.inr h))))

/-- The blocks of a pattern are its footprint without what lies on a timing strip. -/
theorem mem_patternBlocks {c : Cell} {x y : Nat} (hc : 2 ≤ c.1 ∧ 2 ≤ c.2) : (x, y) ∈ cellsOf (patternBlocks c) ↔
    inFootprint c x y = true ∧ ¬ (c.2 = 6 ∧ y = 6) ∧ ¬ (c.1 = 6 ∧ c.2 ≠ 6 ∧ x = 6) := by
  rw [inFootprint_iff, patternBlocks]
  split
  · simp only [mem_cellsOf_cons, notMem_cellsOf_nil, or_false]
    omega
  split
  all_goals
    simp only [mem_cellsOf_cons, notMem_cellsOf_nil, or_false]
    omega

/-- The part of a footprint that is in no block is reserved by step 4: the centre is off the locators. -/
theorem isTiming_of_notMem_patternBlocks {n x y : Nat} {c : Cell} (hn : 21 ≤ n) (hx : OnAxis n c.1) (hy : OnAxis n c.2)
    (hoff : offLocators n c = true) (hin : inFootprint c x y = true) (hout : (x, y) ∉ cellsOf (patternBlocks c)) :
    isTiming n x y = true := by
  unfold OnAxis at hx hy
  rw [mem_patternBlocks (by omega)] at hout
  have hstrip : c.2 = 6 ∧ y = 6 ∨ c.1 = 6 ∧ c.2 ≠ 6 ∧ x = 6 :=
    Classical.byContradiction fun hnone => hout ⟨hin, not_or.mp hnone⟩
  rw [offLocators_iff] at hoff
  rw [inFootprint_iff] at hin
  rw [isTiming_iff]
  omega

theorem isSome_alignmentAt {al : List Nat} {n x y : Nat} :
    (alignmentAt al n x y).isSome = true ↔ ∃ c ∈ alignmentCentres al n, inFootprint c x y = true := by
  rw [alignmentAt, Option.isSome_map, List.find?_isSome]

/-- A cell that steps 1 to 6 reserve. -/
def isFixed (tier n : Nat) (al : List Nat) (x y : Nat) : Bool :=
  isFormat n x y || isVersion tier n x y || ((x == 8 && y == 4 * tier + 9) || (isTiming n x y ||
    ((alignmentAt al n x y).isSome || (isSeparator n x y || (locatorAt n x y).isSome))))

theorem isFixed_iff {v n x y : Nat} {al : List Nat} (hn : n = 21 + 4 * (v - 1)) (hv : 1 ≤ v) (hx : x < n) (hy : y < n) :
    isFixed v n al x y = true ↔ (x, y) ∈ cellsOf (frameBlocks v n) ∨ (alignmentAt al n x y).isSome = true := by
  rw [mem_frameBlocks_iff hn hv hx hy]
  simp only [isFixed, Bool.or_eq_true, Bool.and_eq_true, beq_iff_eq]
  simp only [or_assoc, or_comm, or_left_comm]

/-- Column 6 is all reserved: the corners and the timing strip between them. -/
theorem isFixed_column_six {v n y : Nat} (al : List Nat) (hn : n = 21 + 4 * (v - 1)) (hv : 1 ≤ v) (hy : y < n) :
    isFixed v n al 6 y = true := by
  refine (isFixed_iff hn hv (by omega) hy).mpr (.inl ((mem_frameBlocks (by omega) (by omega) hy).mpr (.inl ?_)))
  unfold InCorner
  omega

theorem mem_fixedBlocks {v n x y : Nat} {al : List Nat} (hn : n = 21 + 4 * (v - 1)) (hv : 1 ≤ v) (hx : x < n)
    (hy : y < n) (hal : ∀ c ∈ alignCandidates al, OnAxis n c.1 ∧ OnAxis n c.2) :
    (x, y) ∈ cellsOf (fixedBlocks v n al) ↔ isFixed v n al x y = true := by
  rw [fixedBlocks, mem_cellsOf_append, mem_cellsOf_flatMap, isFixed_iff hn hv hx hy, isSome_alignmentAt]
  constructor
  · rintro (h | ⟨c, hc, h⟩)
    · exact .inl h
    · obtain ⟨hcx, hcy⟩ := hal c (List.mem_filter.mp hc).1
      unfold OnAxis at hcx hcy
      exact .inr ⟨c, hc, ((mem_patternBlocks (by omega)).mp h).1⟩
  · rintro (h | ⟨c, hc, h⟩)
    · exact .inl h
    · obtain ⟨hmem, hoff⟩ := List.mem_filter.mp hc
      obtain ⟨hcx, hcy⟩ := hal c hmem
      by_cases hblock : (x, y) ∈ cellsOf (patternBlocks c)
      · exact .inr ⟨c, hc, hblock⟩
      · have htiming := isTiming_of_notMem_patternBlocks (by omega) hcx hcy hoff h hblock
        exact .inl ((mem_frameBlocks_iff hn hv hx hy).mpr (.inr (.inr (.inr (.inl htiming)))))

/-! ### The free cells (R260) -/

section Count

variable {s : State} (h : GridReady s)
  (hr : ∀ x y, x < s.size → y < s.size → s.r.get x y = isFixed s.tier s.size s.row.al x y)

include h

theorem blocksTile_of_gridReady : s.row.side = s.size ∧ BlocksTile s.tier s.row := by
  unfold State.row
  rw [h.rom, h.side]
  exact ⟨(standard_row_side h.tier.1 h.tier.2).1, standard_row_blocksTile h.tier.1 h.tier.2⟩

include hr

/-- Where steps 1 to 6 have reserved their cells, the traversal visits the cells outside the blocks. -/
theorem mem_zigzag_iff_notMem_blocks {x y : Nat} (hx : x < s.size) (hy : y < s.size) :
    (x, y) ∈ zigzag s.size s.r ↔ (x, y) ∉ cellsOf (fixedBlocks s.tier s.size s.row.al) := by
  rw [mem_zigzag_iff h, mem_fixedBlocks h.side h.tier.1 hx hy fun c => alignCandidates_onAxis h, hr x y hx hy,
    Bool.not_eq_true]
  constructor
  · exact fun hfree => hfree.2.2.2
  · intro hfree
    refine ⟨hx, hy, fun h6 => ?_, hfree⟩
    exact Bool.false_ne_true (hfree.symm.trans (h6 ▸ isFixed_column_six _ h.side h.tier.1 hy))

/-- The grid is the cells of the traversal and the cells of the blocks. -/
theorem zigzag_append_blocks_perm :
    (zigzag s.size s.r ++ cellsOf (fixedBlocks s.tier s.size s.row.al)).Perm (Block.cells ⟨0, 0, s.size, s.size⟩) := by
  obtain ⟨hside, hapart, hinside, -⟩ := blocksTile_of_gridReady h
  rw [hside] at hapart hinside
  have hin : ∀ {x y}, (x, y) ∈ cellsOf (fixedBlocks s.tier s.size s.row.al) → x < s.size ∧ y < s.size := by
    intro x y hmem
    obtain ⟨b, hb, hmem⟩ := mem_cellsOf.mp hmem
    have hb := hinside b hb
    rw [mem_cells] at hmem
    omega
  have hzigzag : ∀ {x y}, (x, y) ∈ zigzag s.size s.r → x < s.size ∧ y < s.size := fun hmem =>
    ⟨((mem_zigzag_iff h).mp hmem).1, ((mem_zigzag_iff h).mp hmem).2.1⟩
  have hnodup : (zigzag s.size s.r).Nodup := h.side ▸ zigzag_nodup h.tier.1 h.tier.2 s.r
  have hdisj : ∀ c ∈ zigzag s.size s.r, ∀ c' ∈ cellsOf (fixedBlocks s.tier s.size s.row.al), c ≠ c' := by
    rintro ⟨x, y⟩ hmem c' hmem' rfl
    obtain ⟨hx, hy⟩ := hin hmem'
    exact (mem_zigzag_iff_notMem_blocks h hr hx hy).mp hmem hmem'
  refine (List.perm_ext_iff_of_nodup (List.nodup_append.mpr ⟨hnodup, nodup_cellsOf hapart, hdisj⟩) (nodup_cells _)).mpr ?_
  rintro ⟨x, y⟩
  rw [List.mem_append, mem_cells]
  dsimp only
  constructor
  · intro hmem
    have hlt := hmem.elim hzigzag hin
    omega
  · rintro ⟨⟨-, hx⟩, -, hy⟩
    rw [mem_zigzag_iff_notMem_blocks h hr (by omega) (by omega)]
    exact Decidable.not_or_of_imp id

/-- The free cells are exactly as many as the stream of the tier has bits. -/
theorem length_zigzag_of_fixed : (zigzag s.size s.r).length = 8 * s.row.tc + s.row.rem := by
  obtain ⟨hside, -, -, hcount⟩ := blocksTile_of_gridReady h
  rw [hside] at hcount
  have hlen := (zigzag_append_blocks_perm h hr).length_eq
  rw [List.length_append, length_cellsOf, length_cells] at hlen
  dsimp only at hlen
  omega

end Count

end Sys2Proof.Machine

/-! ## MX.FIXED and MX.BUILD -/

namespace Sys2Proof.Machine

open Sys2Proof.Safety

/-! ### What steps 0 to 6 leave alone -/

/-- The states agree but for what steps 0 to 6 write: G, R, SIZE, NSTAMP and the stage. -/
def BuildFrame (s t : State) : Prop :=
  t = { s with g := t.g, r := t.r, size := t.size, nstamp := t.nstamp, ms := t.ms }

theorem BuildFrame.trans {s t u : State} (h : BuildFrame s t) (hnext : BuildFrame t u) : BuildFrame s u :=
  Eq.trans hnext (congrArg (fun v : State => { v with g := u.g, r := u.r, size := u.size, nstamp := u.nstamp, ms := u.ms })
    (show t = { s with g := t.g, r := t.r, size := t.size, nstamp := t.nstamp, ms := t.ms } from h))

section Steps

variable (s : State)

theorem buildFrame_stampTo (cells : List (Cell × Bool)) (m : MatrixStage) : BuildFrame s (s.stampTo cells m) := rfl

theorem buildFrame_reserveTo (cells : List Cell) (m : MatrixStage) : BuildFrame s (s.reserveTo cells m) := rfl

theorem buildFrame_allocated : BuildFrame s s.allocated := rfl

theorem buildFrame_found : BuildFrame s s.found := buildFrame_stampTo ..

theorem buildFrame_separated : BuildFrame s s.separated := buildFrame_reserveTo ..

theorem patterned_frame :
    s.patterned = { s with g := s.patterned.g, r := s.patterned.r, nstamp := s.patterned.nstamp, ms := .align } :=
  congrArg (fun u : State => { u with ms := .align }) (aligned_frame s)

theorem patterned_size : s.patterned.size = s.size := by rw [patterned_frame]

theorem buildFrame_patterned : BuildFrame s s.patterned := by
  unfold BuildFrame
  rw [patterned_size]
  exact patterned_frame s

theorem buildFrame_timed : BuildFrame s s.timed := buildFrame_stampTo ..

theorem buildFrame_darkened : BuildFrame s s.darkened := buildFrame_stampTo ..

theorem buildFrame_formatted : BuildFrame s s.formatted := buildFrame_reserveTo ..

/-- After MX.FIXED (R262). -/
def State.fixed : State := s.allocated.found.separated.patterned.timed.darkened.formatted

theorem buildFrame_fixed : BuildFrame s s.fixed :=
  (buildFrame_allocated s).trans (buildFrame_found _) |>.trans (buildFrame_separated _) |>.trans (buildFrame_patterned _)
    |>.trans (buildFrame_timed _) |>.trans (buildFrame_darkened _) |>.trans (buildFrame_formatted _)

end Steps

section Frame

variable {s t : State} (h : BuildFrame s t)

include h

theorem BuildFrame.rom : t.rom = s.rom := by rw [show t = _ from h]

theorem BuildFrame.tier : t.tier = s.tier := by rw [show t = _ from h]

theorem BuildFrame.ds : t.ds = s.ds := by rw [show t = _ from h]

theorem BuildFrame.flt : t.flt = s.flt := by rw [show t = _ from h]

theorem BuildFrame.final : t.final = s.final := by rw [show t = _ from h]

theorem BuildFrame.row : t.row = s.row := by rw [State.row, h.rom, h.tier, State.row]

end Frame

theorem fixed_size (s : State) : s.fixed.size = s.row.side := by
  rw [State.fixed, State.formatted, reserveTo_size, State.darkened, stampTo_size, State.timed, stampTo_size,
    patterned_size, State.separated, reserveTo_size, State.found, stampTo_size]
  rfl

theorem fixed_ms (s : State) : s.fixed.ms = .fixed := rfl

/-! ### The reserved cells, step by step -/

/-- Some steps after step 0 of the state `s`: the cells `f` names are reserved, and no others. -/
structure Building (s u : State) (f : Nat → Nat → Bool) : Prop where
  ready : GridReady u
  row : u.row = s.row
  tier : u.tier = s.tier
  size : u.size = s.row.side
  cells : ∀ x y, x < u.size → y < u.size → u.r.get x y = f x y

section Building

variable {s u : State} {f : Nat → Nat → Bool}

theorem building_allocated (hrom : s.rom = Rom.standard) (h1 : 1 ≤ s.tier) (h40 : s.tier ≤ 40) :
    Building s s.allocated fun _ _ => false where
  ready := {
    rom := hrom
    tier := ⟨h1, h40⟩
    side := by
      show s.row.side = _
      unfold State.row
      rw [hrom]
      exact (standard_row_side h1 h40).1
    gridG := Grid.wf_blank _
    gridR := Grid.wf_blank _ }
  row := rfl
  tier := rfl
  size := rfl
  cells := fun x y _ _ => Grid.get_blank _ x y

theorem gridReady_stampTo (h : GridReady u) (cells : List (Cell × Bool)) (m : MatrixStage) :
    GridReady (u.stampTo cells m) :=
  ⟨h.rom, h.tier, h.side, Grid.wf_setAll h.gridG _, Grid.wf_setAll h.gridR _⟩

theorem gridReady_reserveTo (h : GridReady u) (cells : List Cell) (m : MatrixStage) : GridReady (u.reserveTo cells m) :=
  ⟨h.rom, h.tier, h.side, h.gridG, Grid.wf_setAll h.gridR _⟩

theorem gridReady_patterned (h : GridReady u) : GridReady u.patterned := by
  have hwf := aligning_aligned h.gridG h.gridR
  rw [patterned_frame]
  exact ⟨h.rom, h.tier, h.side, hwf.gridG, hwf.gridR⟩

theorem Building.stampTo (h : Building s u f) {cells : List (Cell × Bool)} {m : MatrixStage} {b : Nat → Nat → Bool}
    (hcells : ∀ x y, x < u.size → y < u.size → (u.stampTo cells m).r.get x y = (b x y || u.r.get x y)) :
    Building s (u.stampTo cells m) fun x y => b x y || f x y :=
  ⟨gridReady_stampTo h.ready _ _, h.row, h.tier, h.size, fun x y hx hy => by rw [hcells x y hx hy, h.cells x y hx hy]⟩

theorem Building.reserveTo (h : Building s u f) {cells : List Cell} {m : MatrixStage} {b : Nat → Nat → Bool}
    (hcells : ∀ x y, x < u.size → y < u.size → (u.reserveTo cells m).r.get x y = (b x y || u.r.get x y)) :
    Building s (u.reserveTo cells m) fun x y => b x y || f x y :=
  ⟨gridReady_reserveTo h.ready _ _, h.row, h.tier, h.size, fun x y hx hy => by rw [hcells x y hx hy, h.cells x y hx hy]⟩

theorem Building.found (h : Building s u f) :
    Building s u.found fun x y => (locatorAt s.row.side x y).isSome || f x y := by
  rw [← h.size]
  exact h.stampTo fun _ _ => found_r h.ready

theorem Building.separated (h : Building s u f) : Building s u.separated fun x y => isSeparator s.row.side x y || f x y := by
  rw [← h.size]
  exact h.reserveTo fun _ _ => separated_r h.ready

theorem Building.patterned
    (h : Building s u fun x y => isSeparator s.row.side x y || ((locatorAt s.row.side x y).isSome || false)) :
    Building s u.patterned fun x y => (alignmentAt s.row.al s.row.side x y).isSome ||
      (isSeparator s.row.side x y || ((locatorAt s.row.side x y).isSome || false)) := by
  have hframe := buildFrame_patterned u
  refine ⟨gridReady_patterned h.ready, hframe.row.trans h.row, hframe.tier.trans h.tier, (patterned_size u).trans h.size,
    fun x y hx hy => ?_⟩
  rw [patterned_size] at hx hy
  have hr : ∀ x y, x < u.size → y < u.size → u.r.get x y = ((locatorAt u.size x y).isSome || isSeparator u.size x y) :=
    fun x y hx hy => by rw [h.cells x y hx hy, h.size, Bool.or_false, Bool.or_comm]
  rw [patterned_r h.ready hr hx hy, h.row, h.size, h.cells x y hx hy]

theorem Building.timed (h : Building s u f) : Building s u.timed fun x y => isTiming s.row.side x y || f x y := by
  rw [← h.size]
  exact h.stampTo fun _ _ => timed_r h.ready

theorem Building.darkened (h : Building s u f) :
    Building s u.darkened fun x y => (x == 8 && y == 4 * s.tier + 9) || f x y := by
  rw [← h.tier]
  exact h.stampTo fun _ _ => darkened_r h.ready

theorem Building.formatted (h : Building s u f) : Building s u.formatted fun x y =>
    isFormat s.row.side x y || isVersion s.tier s.row.side x y || f x y := by
  rw [← h.size, ← h.tier]
  exact h.reserveTo fun _ _ => formatted_r h.ready

/-- MX.FIXED reserves the cells of steps 1 to 6. -/
theorem building_fixed (hrom : s.rom = Rom.standard) (h1 : 1 ≤ s.tier) (h40 : s.tier ≤ 40) :
    Building s s.fixed (isFixed s.tier s.row.side s.row.al) := by
  have h := (building_allocated hrom h1 h40).found.separated.patterned.timed.darkened.formatted
  exact { h with cells := fun x y hx hy => by rw [isFixed, State.fixed, h.cells x y hx hy, Bool.or_false] }

/-- As many cells are free after MX.FIXED as the stream of the tier has bits (R260). -/
theorem length_zigzag_fixed (hrom : s.rom = Rom.standard) (h1 : 1 ≤ s.tier) (h40 : s.tier ≤ 40) :
    (zigzag s.fixed.size s.fixed.r).length = 8 * s.row.tc + s.row.rem := by
  have h := building_fixed hrom h1 h40
  rw [← h.row]
  refine length_zigzag_of_fixed h.ready ?_
  rw [h.row, h.tier, h.size]
  exact h.size ▸ h.cells

end Building

end Sys2Proof.Machine

namespace Sys2Proof.Machine

open Sys2Proof.Safety

/-! ### The steps and the response given before them (R361) -/

section Responded

variable (s : State) (a : Response)

theorem stampTo_respondWith (cells : List (Cell × Bool)) (m : MatrixStage) :
    (s.respondWith a).stampTo cells m = (s.stampTo cells m).respondWith a := rfl

theorem reserveTo_respondWith (cells : List Cell) (m : MatrixStage) :
    (s.respondWith a).reserveTo cells m = (s.reserveTo cells m).respondWith a := rfl

theorem found_respondWith : (s.respondWith a).found = s.found.respondWith a := by
  rw [State.found, stampTo_respondWith, State.respondWith_rom, State.respondWith_size, State.found]

theorem separated_respondWith : (s.respondWith a).separated = s.separated.respondWith a := by
  rw [State.separated, reserveTo_respondWith, State.respondWith_size, State.separated]

theorem alignOne_respondWith (c : Cell) : (s.respondWith a).alignOne c = (s.alignOne c).respondWith a := by
  unfold State.alignOne
  rw [State.respondWith_rom, State.respondWith_r]
  split
  · rfl
  · generalize alignCells s.rom c = cells
    rfl

theorem patterned_respondWith : (s.respondWith a).patterned = s.patterned.respondWith a := by
  have haligned : (s.respondWith a).aligned = s.aligned.respondWith a :=
    List.foldl_hom (init := { s with nstamp := 0 }) (State.respondWith · a) fun u c => alignOne_respondWith u a c
  rw [State.patterned, haligned]
  rfl

theorem timed_respondWith : (s.respondWith a).timed = s.timed.respondWith a := by
  rw [State.timed, stampTo_respondWith, State.respondWith_size, State.timed]

theorem darkened_respondWith : (s.respondWith a).darkened = s.darkened.respondWith a := by
  rw [State.darkened, stampTo_respondWith, State.respondWith_tier, State.darkened]

theorem formatted_respondWith : (s.respondWith a).formatted = s.formatted.respondWith a := by
  rw [State.formatted, reserveTo_respondWith, State.respondWith_size, State.respondWith_tier, State.formatted]

end Responded

/-! ### The macro commands and their constituents (R262, R263) -/

section Macros

variable {s : State}

theorem opMxFixed_done (hds : 1 ≤ s.ds.code) (hms : s.ms = .none) : opMxFixed s = .done s.fixed s.row.side := by
  rw [opMxFixed, if_neg (not_not_intro ⟨hds, hms⟩), opMxAlloc_done hds hms, andThen_done, opMxFind_done rfl, andThen_done,
    opMxSep_done rfl, andThen_done, opMxAlign_done rfl, andThen_done, opMxTiming_done rfl, andThen_done,
    opMxDark_done rfl, andThen_done, opMxFmt_done rfl, respond_done, ← State.fixed, fixed_size]

theorem execAll_cons {i : Instr} {is : List Instr} {u : State} {n : Nat} (hlive : live s) (hop : opOf i s = .done u n) :
    execAll (i :: is) s = execAll is (u.complete n) := by
  rw [execAll, exec_of_done (.inr hlive) hop]
  rfl

/-- A step that does not look at the response given before it, within a list of commands. -/
theorem execAll_step {i : Instr} {is : List Instr} {u v : State} {m n : Nat} (hlive : live u)
    (hop : ∀ a, opOf i (u.respondWith a) = .done (v.respondWith a) n) :
    execAll (i :: is) (u.complete m) = execAll is (v.complete n) := by
  rw [execAll_cons (s := u.complete m) hlive (hop ⟨true, zext32 m⟩)]
  rfl

/-- The commands of steps 0 to 6 one after another leave what MX.FIXED leaves, and the response of the last. -/
theorem execAll_fixedSteps (hlive : live s) (hds : 1 ≤ s.ds.code) (hms : s.ms = .none) :
    execAll fixedSteps s = some (s.fixed.complete 0) := by
  have hlive' {u : State} (h : BuildFrame s u) : live u := h.flt.trans hlive
  have halloc := buildFrame_allocated s
  have hfind := halloc.trans (buildFrame_found _)
  have hsep := hfind.trans (buildFrame_separated _)
  have halign := hsep.trans (buildFrame_patterned _)
  have htiming := halign.trans (buildFrame_timed _)
  have hdark := htiming.trans (buildFrame_darkened _)
  rw [fixedSteps, execAll_cons (i := .mxAlloc) hlive (opMxAlloc_done hds hms),
    execAll_step (i := .mxFind) (hlive' halloc) fun a => found_respondWith _ a ▸ opMxFind_done rfl,
    execAll_step (i := .mxSep) (hlive' hfind) fun a => separated_respondWith _ a ▸ opMxSep_done rfl,
    execAll_step (i := .mxAlign) (hlive' hsep) fun a => patterned_respondWith _ a ▸ opMxAlign_done rfl,
    execAll_step (i := .mxTiming) (hlive' halign) fun a => timed_respondWith _ a ▸ opMxTiming_done rfl,
    execAll_step (i := .mxDark) (hlive' htiming) fun a => darkened_respondWith _ a ▸ opMxDark_done rfl,
    execAll_step (i := .mxFmt) (hlive' hdark) fun a => formatted_respondWith _ a ▸ opMxFmt_done rfl]
  rfl

theorem opMxBuild_eq (hds : s.ds = .final) (hms : s.ms = .none) : opMxBuild s = (opMxPlace s.fixed).respond (·.flen) := by
  rw [opMxBuild, if_neg (not_not_intro ⟨hms, hds⟩), opMxFixed_done (by rw [hds]; decide) hms, andThen_done]

/-- MX.PLACE on the state MX.FIXED leaves, as a command of its own and as a constituent of MX.BUILD: it completes in both or
in neither, and leaves the same (R263, R361). -/
theorem exec_mxPlace_mxBuild (hlive : live s) (hds : s.ds = .final) (hms : s.ms = .none) (m : Nat) :
    ((zigzag s.fixed.size s.fixed.r).length = s.final.length ∧
      exec .mxPlace (s.fixed.complete m) = .next (s.fixed.placed.complete s.final.length) ∧
      exec .mxBuild s = .next (s.fixed.placed.complete s.final.length)) ∨
    ((zigzag s.fixed.size s.fixed.r).length ≠ s.final.length ∧
      exec .mxPlace (s.fixed.complete m) = .next (trapped .lengthError s.final.length s.fixed) ∧
      exec .mxBuild s = .next (trapped .lengthError s.final.length s.fixed)) := by
  have hframe := buildFrame_fixed s
  have hfinal := hframe.final
  have hlive' : live s.fixed := hframe.flt.trans hlive
  have hds' := hframe.ds.trans hds
  have hms' := fixed_ms s
  have hbuild : opOf .mxBuild s = _ := opMxBuild_eq hds hms
  have hrun : exec .mxBuild s = .next (opOf .mxBuild s).settle := runLive_of_live hlive _
  rw [hbuild] at hrun
  generalize s.fixed = u at *
  rw [← hfinal]
  by_cases hlen : (zigzag u.size u.r).length = u.final.length
  · refine .inl ⟨hlen, ?_, ?_⟩
    · rw [exec_of_done (i := .mxPlace) (s := u.complete m) (.inr hlive')
        (opMxPlace_done (s := u.complete m) hms' hds' hlen)]
      rfl
    · rw [hrun, opMxPlace_done hms' hds' hlen]
      rfl
  · refine .inr ⟨hlen, ?_, ?_⟩
    · exact exec_of_raised (i := .mxPlace) (s := u.complete m) hlive'
        (opMxPlace_raised (s := u.complete m) hms' hds' hlen)
    · rw [hrun, opMxPlace_raised hms' hds' hlen, respond_raised, settle_raised, faultEntry_of_live hlive']

end Macros

/-- Settles O48: the chain of constituents is the chain of commands but for the responses, and the cells that steps 1 to 6
leave free are as many as the stream has bits. -/
theorem mxBuildCompletes : Obligations.MxBuildCompletes := by
  intro s hlive
  refine ⟨decode_encode .mxFixed, decode_encode .mxBuild, fun h => exec_of_raised hlive (if_pos h),
    fun h => exec_of_raised hlive (if_pos (mt And.symm h)), fun hds hms => ?_, fun hds hms => ?_⟩
  · have hexec := exec_of_done (i := .mxFixed) (.inr hlive) (opMxFixed_done hds hms)
    have hall := execAll_fixedSteps hlive hds hms
    have hcount := length_zigzag_fixed (s := s)
    have hstage := fixed_ms s
    have hsize := fixed_size s
    generalize s.fixed = u at *
    exact ⟨_, _, hexec, hall, rfl, hstage, hsize, hcount⟩
  have hop : opOf .mxFixed s = .done s.fixed s.row.side := opMxFixed_done (by rw [hds]; decide) hms
  have hboth := exec_mxPlace_mxBuild hlive hds hms s.row.side
  refine ⟨fun t ht => ?_, fun t u hu ht hresp => ?_, fun hrom h1 h40 hlen => ?_⟩
  · rw [execAll_cons hlive hop, execAll] at ht
    obtain ⟨-, hplace, hbuild⟩ | ⟨-, hplace, -⟩ := hboth
    · rw [hplace] at ht
      exact hbuild.trans (congrArg Host.Outcome.next (Option.some.inj ht))
    · rw [hplace] at ht
      cases ht
  · rw [execAll_cons hlive hop] at hu
    obtain rfl := Option.some.inj hu
    obtain ⟨-, hplace, -⟩ | ⟨-, hplace, hbuild⟩ := hboth
    · obtain rfl := Host.Outcome.next.inj (hplace.symm.trans ht)
      cases hresp
    · obtain rfl := Host.Outcome.next.inj (hplace.symm.trans ht)
      exact ⟨hbuild, fixed_ms s⟩
  · obtain ⟨-, -, hbuild⟩ | ⟨hne, -⟩ := hboth
    · exact ⟨_, hbuild, rfl, rfl⟩
    · exact absurd ((length_zigzag_fixed hrom h1 h40).trans hlen.symm) hne

end Sys2Proof.Machine

/-! ## Masks and the trial grid -/

namespace Sys2Proof.Machine

open Sys2Proof.Safety

/-- R292: the conditions of the eight masks, in the order of their indices. -/
theorem maskConditions_getElem? (k : MaskIdx) (x y : Nat) :
    [(x + y) % 2 == 0, y % 2 == 0, x % 3 == 0, (x + y) % 3 == 0, (y / 2 + x / 3) % 2 == 0,
      (x * y) % 2 + (x * y) % 3 == 0, ((x * y) % 2 + (x * y) % 3) % 2 == 0,
      ((x + y) % 2 + (x * y) % 3) % 2 == 0][k.val]? = some (maskFn k x y) := by
  fin_cases k <;> rfl

theorem get_trialGrid {k : MaskIdx} {n : Nat} {g r : Grid} {x y : Nat} (hx : x < n) (hy : y < n) :
    (trialGrid k n g r).get x y = if r.get x y then g.get x y else g.get x y ^^ maskFn k x y := by
  rw [trialGrid, Grid.get_tabulate n _ hx hy]
  cases r.get x y <;> simp

/-- R291: a mask applied twice gives the grid back. -/
theorem get_trialGrid_twice {k : MaskIdx} {n : Nat} {g r : Grid} {x y : Nat} (hx : x < n) (hy : y < n) :
    (trialGrid k n (trialGrid k n g r) r).get x y = g.get x y := by
  rw [get_trialGrid hx hy, get_trialGrid hx hy]
  cases r.get x y <;> simp

theorem opMkBit_of_mask {a : Byte} {k : MaskIdx} (ha : a.toNat = k.val) (b c : Byte) (s : State) :
    opMkBit a b c s = .done s (maskFn k b.toNat c.toNat).toNat := by
  simp only [opMkBit, maskOperand_of_toNat ha]

theorem opMkApply_of_mask {s : State} {a : Byte} {k : MaskIdx} (hms : 8 ≤ s.ms.code) (ha : a.toNat = k.val) :
    opMkApply a s = .done (s.applyMask k) 0 := by
  simp only [opMkApply, hms, maskOperand_of_toNat ha, not_true, if_false]

/-- Settles O50: an operand below 8 names a mask, whose trial grid is read cell by cell; the stage is checked before it. -/
theorem maskBitAndApply : Obligations.MaskBitAndApply := by
  intro s a b c hlive
  have hrange (ha : 8 ≤ a.toNat) : ¬ a.toNat ≤ 7 := by omega
  refine ⟨decode_encode (.mkBit a b c), decode_encode (.mkApply a), fun m hm => ?_, fun ha => ?_, fun hms k hk => ?_,
    fun hms ha => ?_, fun hms => ?_⟩
  · obtain ⟨hlt, -⟩ := List.getElem?_eq_some_iff.mp hm
    have hcond := maskConditions_getElem? ⟨a.toNat, hlt⟩ b.toNat c.toNat
    obtain rfl := Option.some.inj (hm.symm.trans hcond)
    exact exec_of_done (i := .mkBit a b c) (.inr hlive) (opMkBit_of_mask rfl b c s)
  · exact (outOfRangeOperandFaults (.mkBit a b c) s _ hlive rfl (if_neg (hrange ha))).2
  · exact ⟨_, exec_of_done (i := .mkApply a) (.inr hlive) (opMkApply_of_mask hms hk), rfl, Grid.wf_tabulate _ _,
      fun _ _ => get_trialGrid, fun _ _ => get_trialGrid_twice⟩
  · exact (outOfRangeOperandFaults (.mkApply a) s _ hlive (decide_eq_true hms) (if_neg (hrange ha))).2
  · exact exec_of_raised (i := .mkApply a) hlive (if_pos (Nat.not_le.mpr hms))

end Sys2Proof.Machine

/-! ## Trying every mask -/

namespace Sys2Proof.Machine

open Sys2Proof.Safety

/-! ### The best of some masks (R305) -/

/-- The score of the trial grid of mask `k`. -/
def State.maskScore (s : State) (k : MaskIdx) : Nat := gridScore s.rom s.size (trialGrid k s.size s.g s.r)

/-- `kept` is, of the masks of `ks`, the lowest of those with the lowest score. -/
structure FirstBest (s : State) (ks : List MaskIdx) (kept : MaskIdx) : Prop where
  mem : kept ∈ ks
  least : ∀ k ∈ ks, s.maskScore kept ≤ s.maskScore k
  first : ∀ k ∈ ks, k < kept → s.maskScore kept < s.maskScore k

theorem FirstBest.singleton (s : State) (k : MaskIdx) : FirstBest s [k] k where
  mem := List.mem_singleton_self k
  least _ hj := List.mem_singleton.mp hj ▸ Nat.le_refl _
  first _ hj hlt := absurd (List.mem_singleton.mp hj) (Fin.ne_of_lt hlt)

section

variable {s : State} {ks : List MaskIdx} {kept k : MaskIdx}

/-- A strictly lower score is kept in the place of the best so far. -/
theorem FirstBest.replace (h : FirstBest s ks kept) (hlow : s.maskScore k < s.maskScore kept) :
    FirstBest s (ks ++ [k]) k := by
  have hall : ∀ j ∈ ks, s.maskScore k < s.maskScore j := fun j hj => Nat.lt_of_lt_of_le hlow (h.least j hj)
  refine ⟨List.mem_append_right _ (List.mem_singleton_self k), fun j hj => ?_, fun j hj hlt => ?_⟩
  · obtain hj | hj := List.mem_append.mp hj
    · exact Nat.le_of_lt (hall j hj)
    · rw [List.mem_singleton.mp hj]
  · obtain hj | hj := List.mem_append.mp hj
    · exact hall j hj
    · exact absurd (List.mem_singleton.mp hj) (Fin.ne_of_lt hlt)

/-- A later mask that scores no lower leaves the best so far. -/
theorem FirstBest.keep (h : FirstBest s ks kept) (hhigh : ¬ s.maskScore k < s.maskScore kept) (hafter : ∀ j ∈ ks, j < k) :
    FirstBest s (ks ++ [k]) kept := by
  refine ⟨List.mem_append_left _ h.mem, fun j hj => ?_, fun j hj hlt => ?_⟩
  · obtain hj | hj := List.mem_append.mp hj
    · exact h.least j hj
    · rw [List.mem_singleton.mp hj]
      exact Nat.not_lt.mp hhigh
  · obtain hj | hj := List.mem_append.mp hj
    · exact h.first j hj hlt
    · rw [List.mem_singleton.mp hj] at hlt
      exact absurd (hafter kept h.mem) (Fin.not_lt.mpr (Fin.le_of_lt hlt))

end

/-! ### The search -/

/-- The state once mask `last` is the last one tried and `kept` is the one kept, with the scores stored so far. -/
def State.searching (s : State) (last kept : MaskIdx) (score : Vector (Option Word) 8) : State :=
  { s with
    t := trialGrid last s.size s.g s.r, tmask := last, tv := true, o := trialGrid kept s.size s.g s.r, score := score }

/-- What try-all has computed once the masks of `ks`, one at least, are tried: the best of them is kept, and each has its
score stored.  `Tried` is the part of it that the frame of the command needs. -/
def Searched (s : State) (ks : List MaskIdx) (acc : State × Option (MaskIdx × Nat)) : Prop :=
  ∃ last kept score, acc = (s.searching last kept score, some (kept, s.maskScore kept)) ∧ ks.getLast? = some last ∧
    FirstBest s ks kept ∧ ∀ k ∈ ks, score[k] = some (zext32 (s.maskScore k))

theorem getElem_setScore (score : Vector (Option Word) 8) (k j : MaskIdx) (v : Word) :
    (score.set k (some v))[j] = if k = j then some v else score[j] := by
  rw [Fin.getElem_fin, Vector.getElem_set]
  simp only [Fin.val_inj, Fin.getElem_fin]

theorem searched_first (s : State) (k : MaskIdx) : Searched s [k] (tryMask (s, none) k) := by
  refine ⟨k, k, _, rfl, rfl, .singleton s k, fun j hj => ?_⟩
  rw [List.mem_singleton.mp hj]
  exact (getElem_setScore s.score k k _).trans (if_pos rfl)

theorem Searched.next {s : State} {ks : List MaskIdx} {acc : State × Option (MaskIdx × Nat)} (h : Searched s ks acc)
    {k : MaskIdx} (hafter : ∀ j ∈ ks, j < k) : Searched s (ks ++ [k]) (tryMask acc k) := by
  obtain ⟨last, kept, score, rfl, -, hbest, hscore⟩ := h
  have hset : ∀ j ∈ ks ++ [k], (score.set k (some (zext32 (s.maskScore k))))[j] = some (zext32 (s.maskScore j)) := by
    intro j hj
    rw [getElem_setScore]
    split
    next heq => rw [heq]
    next hne => exact hscore j ((List.mem_append.mp hj).resolve_right fun hk => hne (List.mem_singleton.mp hk).symm)
  by_cases hlow : s.maskScore k < s.maskScore kept
  · exact ⟨k, k, _, if_pos hlow, List.getLast?_concat, hbest.replace hlow, hset⟩
  · exact ⟨k, kept, _, if_neg hlow, List.getLast?_concat, hbest.keep hlow hafter, hset⟩

/-- Masks are tried in the order of their indices. -/
theorem Searched.foldl {s : State} {ks more : List MaskIdx} {acc : State × Option (MaskIdx × Nat)} (h : Searched s ks acc)
    (hsorted : (ks ++ more).Pairwise (· < ·)) : Searched s (ks ++ more) (more.foldl tryMask acc) := by
  induction more generalizing ks acc with
  | nil => rwa [List.append_nil]
  | cons k more ih =>
    have hafter : ∀ j ∈ ks, j < k := fun j hj =>
      (List.pairwise_append.mp hsorted).2.2 j hj k (List.mem_cons_self ..)
    rw [List.append_cons] at hsorted ⊢
    exact ih (h.next hafter) hsorted

theorem searched_all (s : State) : Searched s (List.finRange 8) ((List.finRange 8).foldl tryMask (s, none)) :=
  (searched_first s 0).foldl (more := [1, 2, 3, 4, 5, 6, 7]) (by decide)

/-- The search ends with mask 7 tried, its best mask the first of the lowest score of all eight. -/
theorem opMkTryall_done {s : State} (hms : 8 ≤ s.ms.code) :
    ∃ kept score, FirstBest s (List.finRange 8) kept ∧ (∀ k : MaskIdx, score[k] = some (zext32 (s.maskScore k))) ∧
      opMkTryall s = .done
        { s.searching 7 kept score with best := kept, bestScore := zext32 (s.maskScore kept), ms := .masked } kept.val := by
  obtain ⟨last, kept, score, hacc, hlast, hbest, hscore⟩ := searched_all s
  obtain rfl : 7 = last := Option.some.inj hlast
  refine ⟨kept, score, hbest, fun k => hscore k (List.mem_finRange k), ?_⟩
  rw [opMkTryall, if_neg (not_not_intro hms), hacc]
  rfl

/-- Settles O53: the search over the eight masks in their order, each of them in the list. -/
theorem mkTryallKeepsTheBest : Obligations.MkTryallKeepsTheBest := by
  intro s hlive
  refine ⟨decode_encode .mkTryall, fun hms => ?_, fun hms =>
    exec_of_raised (i := .mkTryall) hlive (if_pos (Nat.not_le.mpr hms))⟩
  obtain ⟨kept, score, hbest, hscore, hop⟩ := opMkTryall_done hms
  exact ⟨_, exec_of_done (i := .mkTryall) (.inr hlive) hop, rfl, rfl, rfl, hscore, rfl,
    fun k => hbest.least k (List.mem_finRange k), fun k => hbest.first k (List.mem_finRange k)⟩

end Sys2Proof.Machine

/-! ## The penalties, counted by positions -/

namespace Sys2Proof.Machine

open Sys2Proof.Safety

/-! ### Runs (R296) -/

theorem fiveEqual_iff {f : Nat → Bool} {i : Nat} : fiveEqual f i = true ↔ ∀ d < 5, f (i + d) = f i := by
  simp [fiveEqual]

/-- A line of five cells or more has one window more than the line without its last cell. -/
theorem lineRuns_succ (f : Nat → Bool) (i : Nat) :
    lineRuns (i + 4 + 1) f = lineRuns (i + 4) f + (fiveEqual f i).toNat +
      2 * (fiveEqual f i && (i == 0 || f (i - 1) != f i)).toNat := by
  have hrange : i + 4 + 1 - 4 = i + 1 := by omega
  have hcount (p : Nat → Bool) : (List.range (i + 1)).countP p = (List.range i).countP p + (p i).toNat := by
    rw [List.range_succ, List.countP_append, List.countP_singleton, Bool.toNat, Bool.cond_eq_ite]
  simp only [lineRuns, hrange, Nat.add_sub_cancel, hcount]
  omega

theorem lineRuns_of_le_four {n : Nat} (h : n ≤ 4) (f : Nat → Bool) : lineRuns n f = 0 := by
  rw [lineRuns, Nat.sub_eq_zero_of_le h]
  rfl

/-- A run begins at `start` and holds the `len` cells from there on, and perhaps more. -/
structure RunAt (f : Nat → Bool) (start len : Nat) : Prop where
  begins : start = 0 ∨ f (start - 1) ≠ f start
  same : ∀ d < len, f (start + d) = f start

section

variable {f : Nat → Bool} {start len : Nat}

theorem RunAt.extend (h : RunAt f start len) (heq : f (start + len) = f start) : RunAt f start (len + 1) where
  begins := h.begins
  same d hd := (Nat.lt_succ_iff_lt_or_eq.mp hd).elim (h.same d) fun hd => hd ▸ heq

theorem RunAt.next (h : RunAt f start len) (hlen : 0 < len) (hne : f (start + len) ≠ f start) :
    RunAt f (start + len) 1 where
  begins := .inr (by rw [Nat.add_sub_assoc hlen, h.same (len - 1) (Nat.sub_one_lt_of_lt hlen)]; exact hne.symm)
  same d hd := by rw [Nat.lt_one_iff.mp hd, Nat.add_zero]

/-- The cells of a run, by their places in the line. -/
theorem RunAt.at (h : RunAt f start len) {j : Nat} (hle : start ≤ j) (hlt : j < start + len) : f j = f start := by
  have := h.same (j - start) (by omega)
  rwa [Nat.add_sub_cancel' hle] at this

/-- Five cells within a run. -/
theorem RunAt.fiveEqual_of_le (h : RunAt f start len) {i : Nat} (hle : start ≤ i) (hlt : i + 4 < start + len) :
    fiveEqual f i = true :=
  fiveEqual_iff.mpr fun d hd => by rw [h.at (by omega) (by omega), h.at hle (by omega)]

/-- Five cells across the beginning of a run. -/
theorem RunAt.fiveEqual_of_lt (h : RunAt f start len) {i : Nat} (hlt : i < start) (hle : start ≤ i + 4) :
    fiveEqual f i = false := by
  refine Bool.eq_false_iff.mpr fun hfive => h.begins.resolve_left (by omega) ?_
  have hcell (j : Nat) (hj : i ≤ j ∧ j ≤ i + 4) : f j = f i := by
    have := fiveEqual_iff.mp hfive (j - i) (by omega)
    rwa [Nat.add_sub_cancel' hj.1] at this
  rw [hcell (start - 1) (by omega), hcell start (by omega)]

/-- One cell more in a run adds to the count by windows what it adds to the penalty of the run: nothing below five cells, the
first window of the run at five, another window above. -/
theorem RunAt.lineRuns_grow (h : RunAt f start (len + 1)) :
    lineRuns (start + len + 1) f + runPen len = lineRuns (start + len) f + runPen (len + 1) := by
  unfold runPen
  obtain hshort | hwindow := Nat.lt_or_ge (start + len) 4
  · rw [lineRuns_of_le_four (by omega), lineRuns_of_le_four (by omega), if_neg (by omega), if_neg (by omega)]
  obtain ⟨i, hi⟩ := Nat.exists_eq_add_of_le' hwindow
  rw [hi, lineRuns_succ]
  obtain hlen | rfl | hlen : len < 4 ∨ len = 4 ∨ 4 < len := by omega
  · rw [h.fiveEqual_of_lt (by omega) (by omega), if_neg (by omega), if_neg (by omega)]
    rfl
  · obtain rfl : start = i := by omega
    have hbegins : (start == 0 || f (start - 1) != f start) = true := by simpa using h.begins
    rw [h.fiveEqual_of_le (Nat.le_refl _) (by omega), hbegins]
    rfl
  · have hinside : (i == 0 || f (i - 1) != f i) = false := by
      have hprev := h.at (j := i - 1) (by omega) (by omega)
      have hthis := h.at (j := i) (by omega) (by omega)
      simp [hprev, hthis, show i ≠ 0 by omega]
    rw [h.fiveEqual_of_le (by omega) (by omega), hinside, if_pos (by omega), if_pos (by omega)]
    simp only [Bool.toNat_true, Bool.and_false, Bool.toNat_false]
    omega

/-- The penalty of the run that has come to cell `p`, and of the runs after it, makes up for the windows that end there or
later. -/
theorem RunAt.runsFrom_add (m : Nat) {p : Nat} (h : RunAt f start len) (hlen : 0 < len) (hp : start + len = p) :
    runsFrom (f start) len ((List.range' p m).map f) + lineRuns p f = runPen len + lineRuns (p + m) f := by
  induction m generalizing start len p with
  | zero => rfl
  | succ m ih =>
    subst hp
    rw [List.range'_succ, List.map_cons, runsFrom, Nat.add_comm m 1, ← Nat.add_assoc]
    split
    next heq =>
      have hrun := h.extend heq
      have hcell := hrun.lineRuns_grow
      have hrest := ih hrun (p := start + len + 1) (Nat.succ_pos len) rfl
      omega
    next hne =>
      have hrun := h.next hlen hne
      have hcell : lineRuns (start + len + 1) f + 0 = lineRuns (start + len) f + 0 := hrun.lineRuns_grow
      have hrest := ih hrun (p := start + len + 1) Nat.one_pos rfl
      have hone : runPen 1 = 0 := rfl
      omega

theorem linePen_map_range (n : Nat) (f : Nat → Bool) : linePen ((List.range n).map f) = lineRuns n f := by
  cases n with
  | zero => rfl
  | succ n =>
    have hrun : RunAt f 0 1 := ⟨.inl rfl, fun d hd => by rw [Nat.lt_one_iff.mp hd]⟩
    have hsum := hrun.runsFrom_add n Nat.one_pos rfl
    have hone : runPen 1 = 0 := rfl
    rw [lineRuns_of_le_four (by decide), Nat.add_comm _ n, hone, Nat.add_zero] at hsum
    rw [List.range_eq_range', List.range'_succ, List.map_cons, linePen]
    exact hsum.trans (Nat.zero_add _)

end

theorem pen1_eq_runsPenalty (n : Nat) (t : Grid) : pen1 n t = runsPenalty n t := by
  simp only [pen1, lines, runsPenalty, List.map_append, List.sum_append, List.map_map, Function.comp_def, Grid.row,
    Grid.column, linePen_map_range]

/-! ### Windows (R297, R298, R299) -/

theorem countP_cellsBelow (w h : Nat) (p : Cell → Bool) :
    (cellsBelow w h).countP p = ((List.range w).map fun x => (List.range h).countP fun y => p (x, y)).sum := by
  simp only [cellsBelow, List.countP_flatMap, List.countP_map, Function.comp_def]

theorem length_cellsBelow (w h : Nat) : (cellsBelow w h).length = w * h := by
  simp [cellsBelow]

theorem sum_map_add_ite {α : Type} (f : α → Nat) (p : α → Bool) (l : List α) :
    (l.map fun x => f x + if p x then 1 else 0).sum = (l.map f).sum + l.countP p := by
  induction l with
  | nil => rfl
  | cons x l ih =>
    simp only [List.map_cons, List.sum_cons, List.countP_cons, ih]
    omega

/-- Pairs counted row by row are as many as counted column by column. -/
theorem sum_countP_comm {α β : Type} (p : α → β → Bool) (l : List α) (m : List β) :
    (l.map fun x => m.countP (p x)).sum = (m.map fun y => l.countP (p · y)).sum := by
  induction l with
  | nil => simp
  | cons x l ih =>
    simp only [List.countP_cons]
    rw [sum_map_add_ite, ← ih, List.map_cons, List.sum_cons, Nat.add_comm]

theorem oneColour_eq (t : Grid) (x y : Nat) : oneColour t x y =
    ([t.get x y, t.get (x + 1) y, t.get x (y + 1), t.get (x + 1) (y + 1)] == [true, true, true, true] ||
      [t.get x y, t.get (x + 1) y, t.get x (y + 1), t.get (x + 1) (y + 1)] == [false, false, false, false]) := by
  have hcells : ∀ a b c d : Bool, (a == b && a == c && a == d) =
      ([a, b, c, d] == [true, true, true, true] || [a, b, c, d] == [false, false, false, false]) := by decide
  exact hcells ..

theorem pen2_eq_blocksPenalty (n : Nat) (t : Grid) : pen2 n t = blocksPenalty n t := by
  simp only [pen2, blocksPenalty, countP_cellsBelow, ← oneColour_eq]

/-- A sequence begins a line if it is the line's first cells. -/
theorem isPrefixOf_map_range {w : List Bool} {n : Nat} (h : w.length ≤ n) (f : Nat → Bool) :
    w.isPrefixOf ((List.range n).map f) = ((List.range w.length).map f == w) := by
  rw [Bool.eq_iff_iff, List.isPrefixOf_iff_prefix, beq_iff_eq, List.prefix_iff_eq_take, ← List.map_take, List.take_range,
    Nat.min_eq_left h, eq_comm]

theorem matchCount_of_short {line : List Bool} (h : line.length ≤ 10) : matchCount Rom.standard line = 0 := by
  induction line with
  | nil => rfl
  | cons b rest ih =>
    have hlong {w : List Bool} (hw : w.length = 11) : w.isPrefixOf (b :: rest) = false := by
      refine Bool.eq_false_iff.mpr fun hpre => ?_
      have := (List.isPrefixOf_iff_prefix.mp hpre).length_le
      omega
    rw [matchCount, hlong rfl, hlong rfl, ih (Nat.le_of_succ_le h)]
    rfl

theorem matchCount_map_range (n : Nat) (f : Nat → Bool) :
    matchCount Rom.standard ((List.range n).map f) = (List.range (n - 10)).countP fun i => locatorLike fun d => f (i + d) := by
  induction n generalizing f with
  | zero => rfl
  | succ n ih =>
    obtain hshort | hlong := Nat.lt_or_ge n 10
    · rw [matchCount_of_short (by simpa using hshort), Nat.sub_eq_zero_of_le hshort]
      rfl
    have hline : (List.range (n + 1)).map f = f 0 :: (List.range n).map fun i => f (i + 1) := by
      rw [List.range_succ_eq_map, List.map_cons, List.map_map]
      rfl
    have hwindow : (Rom.standard.p3a.isPrefixOf ((List.range (n + 1)).map f) ||
        Rom.standard.p3b.isPrefixOf ((List.range (n + 1)).map f)) = locatorLike f := by
      rw [isPrefixOf_map_range (Nat.succ_le_succ hlong), isPrefixOf_map_range (Nat.succ_le_succ hlong)]
      rfl
    have hstarts : n + 1 - 10 = n - 10 + 1 := Nat.sub_add_comm hlong
    rw [hline] at hwindow ⊢
    rw [matchCount, hwindow, ih, hstarts, List.range_succ_eq_map, List.countP_cons, List.countP_map, Nat.add_comm]
    simp only [Function.comp_def, Nat.succ_eq_add_one, Nat.zero_add, Nat.add_right_comm _ 1]

theorem pen3_eq_windowsPenalty (n : Nat) (t : Grid) : pen3 Rom.standard n t = windowsPenalty n t := by
  simp only [pen3, lines, List.map_append, List.sum_append, List.map_map, Function.comp_def, Grid.row, Grid.column,
    matchCount_map_range, windowsPenalty, countP_cellsBelow, Nat.mul_add]
  rw [sum_countP_comm]

theorem balancePen_eq (d cells : Nat) : balancePen d cells =
    10 * min (max (20 * d / cells) 10 - min (20 * d / cells) 10) (max (20 * d / cells + 1) 10 - min (20 * d / cells + 1) 10) := by
  simp only [balancePen, distance50]
  generalize 20 * d / cells = k
  omega

theorem pen4_eq_balancePenalty (n : Nat) (t : Grid) : pen4 n t = balancePenalty n t := by
  simp only [pen4, balancePen_eq, darkCount, balancePenalty, countP_cellsBelow]

theorem gridScore_eq_totalPenalty (n : Nat) (t : Grid) : gridScore Rom.standard n t = totalPenalty n t := by
  rw [gridScore, pen1_eq_runsPenalty, pen2_eq_blocksPenalty, pen3_eq_windowsPenalty, pen4_eq_balancePenalty]
  rfl

/-! ### The commands (R300 to R304) -/

theorem exec_of_penaltyOf {s : State} {i : Instr} {pen : Nat → Grid → Nat} (hop : opOf i s = penaltyOf pen s) (hlive : live s) :
    (s.tv = true → exec i s = .next { s with resp := ok (pen s.size s.t) }) ∧
    (s.tv = false → exec i s = .next (trapped .sequenceError s.seqInfo s)) :=
  ⟨fun htv => exec_of_done (.inr hlive) (hop.trans (if_neg (not_not_intro htv))),
    fun htv => exec_of_raised hlive (hop.trans (if_pos (Bool.eq_false_iff.mp htv)))⟩

/-- Settles O51: each penalty is the count by positions, under the checks the five commands share. -/
theorem penaltyCommands : Obligations.PenaltyCommands := by
  intro s hlive hrom
  obtain ⟨hp1, hp1'⟩ := exec_of_penaltyOf (i := .mkP1) (pen := pen1) rfl hlive
  obtain ⟨hp2, hp2'⟩ := exec_of_penaltyOf (i := .mkP2) (pen := pen2) rfl hlive
  obtain ⟨hp3, hp3'⟩ := exec_of_penaltyOf (i := .mkP3) (pen := pen3 Rom.standard) (by rw [← hrom]; rfl) hlive
  obtain ⟨hp4, hp4'⟩ := exec_of_penaltyOf (i := .mkP4) (pen := pen4) rfl hlive
  rw [pen1_eq_runsPenalty] at hp1
  rw [pen2_eq_blocksPenalty] at hp2
  rw [pen3_eq_windowsPenalty] at hp3
  rw [pen4_eq_balancePenalty] at hp4
  have hscore : s.trialScore = totalPenalty s.size s.t := by rw [State.trialScore, hrom, gridScore_eq_totalPenalty]
  refine ⟨decode_encode .mkP1, decode_encode .mkP2, decode_encode .mkP3, decode_encode .mkP4, decode_encode .mkScore,
    fun htv => ⟨hp1 htv, hp2 htv, hp3 htv, hp4 htv, ?_⟩, fun htv => ⟨hp1' htv, hp2' htv, hp3' htv, hp4' htv, ?_⟩⟩
  · rw [← hscore]
    exact exec_of_done (i := .mkScore) (.inr hlive) (if_neg (not_not_intro htv))
  · exact exec_of_raised (i := .mkScore) hlive (if_pos (Bool.eq_false_iff.mp htv))

end Sys2Proof.Machine

/-! ## The bounds of the penalties (R295) -/

namespace Sys2Proof.Machine

open Sys2Proof.Safety

theorem runPen_le (len : Nat) : runPen len ≤ len - 2 := by
  unfold runPen
  split <;> omega

/-- Two cells at least of the line add nothing: the bound is met by one run. -/
theorem runsFrom_le {len : Nat} (hlen : 0 < len) (b : Bool) (rest : List Bool) :
    runsFrom b len rest ≤ len + rest.length - 2 := by
  induction rest generalizing b len with
  | nil => exact runPen_le len
  | cons c rest ih =>
    rw [runsFrom, List.length_cons]
    split
    · have hrun := ih (len := len + 1) (Nat.succ_pos len) b
      omega
    · have hrun := runPen_le len
      have hnext := ih Nat.one_pos c
      omega

theorem linePen_le (line : List Bool) : linePen line ≤ line.length - 2 := by
  cases line with
  | nil => exact Nat.zero_le _
  | cons b rest => exact (runsFrom_le Nat.one_pos b rest).trans (by rw [List.length_cons, Nat.add_comm])

theorem length_lines (n : Nat) (t : Grid) : (lines n t).length = 2 * n := by
  simp [lines, Nat.two_mul]

theorem length_of_mem_lines {n : Nat} {t : Grid} {line : List Bool} (h : line ∈ lines n t) : line.length = n := by
  simp only [lines, List.mem_append, List.mem_map] at h
  obtain ⟨_, -, rfl⟩ | ⟨_, -, rfl⟩ := h
  · simp [Grid.row]
  · simp [Grid.column]

/-- Every line of the `2 * n` at its bound. -/
theorem pen1_le (n : Nat) (t : Grid) : pen1 n t ≤ 2 * n * (n - 2) := by
  have hline : ∀ v ∈ (lines n t).map linePen, v ≤ n - 2 := by
    intro v hv
    obtain ⟨line, hmem, rfl⟩ := List.mem_map.mp hv
    exact length_of_mem_lines hmem ▸ linePen_le line
  have hsum := List.sum_le_card_nsmul _ _ hline
  rwa [List.length_map, length_lines, smul_eq_mul] at hsum

theorem countP_cellsBelow_le (w h : Nat) (p : Cell → Bool) : (cellsBelow w h).countP p ≤ w * h :=
  length_cellsBelow w h ▸ List.countP_le_length

theorem pen2_le (n : Nat) (t : Grid) : pen2 n t ≤ 3 * (n - 1) ^ 2 := by
  rw [pen2_eq_blocksPenalty, sq]
  exact Nat.mul_le_mul_left 3 (countP_cellsBelow_le _ _ _)

theorem pen3_le (n : Nat) (t : Grid) : pen3 Rom.standard n t ≤ 80 * n * (n - 10) := by
  rw [pen3_eq_windowsPenalty]
  calc windowsPenalty n t ≤ 40 * ((n - 10) * n) + 40 * (n * (n - 10)) :=
        Nat.add_le_add (Nat.mul_le_mul_left 40 (countP_cellsBelow_le _ _ _))
          (Nat.mul_le_mul_left 40 (countP_cellsBelow_le _ _ _))
    _ = 80 * n * (n - 10) := by ring

/-- The dark cells are at most twenty twentieths of the grid. -/
theorem pen4_le (n : Nat) (t : Grid) : pen4 n t ≤ 100 := by
  have hdark : 20 * darkCount n t / (n * n) ≤ 20 := by
    refine Nat.div_le_of_le_mul ?_
    rw [Nat.mul_comm, darkCount, ← countP_cellsBelow n n fun c => t.get c.1 c.2]
    exact Nat.mul_le_mul_right 20 (countP_cellsBelow_le _ _ _)
  rw [pen4, balancePen_eq]
  generalize 20 * darkCount n t / (n * n) = k at *
  omega

/-- Settles O52: the four bounds, and their sum at the largest side. -/
theorem scoreBounds : Obligations.ScoreBounds := by
  intro n t _ hn
  have hp1 := pen1_le n t
  have hp2 := pen2_le n t
  have hp3 := pen3_le n t
  have hp4 := pen4_le n t
  refine ⟨hp1, hp2, hp3, hp4, ?_⟩
  have hmax1 : 2 * n * (n - 2) ≤ 2 * 177 * 175 := Nat.mul_le_mul (by omega) (by omega)
  have hmax2 : 3 * (n - 1) ^ 2 ≤ 3 * 176 ^ 2 := Nat.mul_le_mul_left 3 (Nat.pow_le_pow_left (by omega) 2)
  have hmax3 : 80 * n * (n - 10) ≤ 80 * 177 * 167 := Nat.mul_le_mul (by omega) (by omega)
  unfold gridScore
  omega

end Sys2Proof.Machine

/-! ## The system commands -/

namespace Sys2Proof.Machine

open Sys2Proof.Safety

/-! ### NOP and JOB.NEW (R330, R331) -/

/-- Settles O19: both complete in a live and in a dead job, JOB.NEW with the fresh state written out. -/
theorem nopAndJobNew : Obligations.NopAndJobNew :=
  ⟨decode_encode .nop, decode_encode .jobNew, fun s => ⟨exec_of_done (i := .nop) (.inl rfl) rfl, exec_jobNew s⟩⟩

/-! ### The status registers (R26, R27, R332) -/

section Status

variable {s : State} {a : Byte}

theorem exec_srRd {v : Nat} (h : s.statusRegister a.toNat = some v) :
    exec (.srRd a) s = .next { s with resp := ok v } := by
  have hop : opOf (.srRd a) s = .done s v := by rw [opOf, opSrRd, h]
  exact exec_of_done (.inl rfl) hop

/-- A register held as a 32-bit word is answered as it is. -/
theorem exec_srRd_word {v : Word} (h : s.statusRegister a.toNat = some v.toNat) :
    exec (.srRd a) s = .next { s with resp := some ⟨true, v⟩ } := by
  rw [exec_srRd h, Safety.ok, zext32, BitVec.ofNat_toNat, BitVec.setWidth_eq]

theorem opSrRd_of_none (h : s.statusRegister a.toNat = none) : opSrRd a s = rangeError a.toNat s := by
  rw [opSrRd, h]

theorem exec_srRd_of_dead (hdead : s.flt = true) (ha : 15 < a.toNat) :
    exec (.srRd a) s = .next { s with resp := failed .rangeError } := by
  have hop : opSrRd a s = rangeError a.toNat s := opSrRd_of_none (statusRegister_eq_none s (Nat.not_le.mpr ha))
  rw [show exec (.srRd a) s = .next (opSrRd a s).settle from rfl, hop, settle_rangeError, faultEntry_of_dead hdead]

end Status

theorem DataStage.code_lt_six (d : DataStage) : d.code < 6 := by cases d <;> decide

theorem svBits_eq (s : State) : s.svBits =
    (s.sv 0).toNat + 2 * (s.sv 1).toNat + 4 * (s.sv 2).toNat + 8 * (s.sv 3).toNat + 16 * (s.sv 4).toNat +
      32 * (s.sv 5).toNat + 64 * (s.sv 6).toNat + 128 * (s.sv 7).toNat := by
  simp [State.svBits, List.finRange_succ]
  omega

/-- Each score has its own bit of `SV` (R27). -/
theorem svBits_bits (s : State) : s.svBits < 256 ∧ ∀ k : MaskIdx, s.svBits / 2 ^ k.val % 2 = (s.sv k).toNat := by
  have hbit (j : MaskIdx) : (s.sv j).toNat < 2 := Bool.toNat_lt _
  have h0 := hbit 0
  have h1 := hbit 1
  have h2 := hbit 2
  have h3 := hbit 3
  have h4 := hbit 4
  have h5 := hbit 5
  have h6 := hbit 6
  have h7 := hbit 7
  rw [svBits_eq]
  refine ⟨by omega, fun k => ?_⟩
  fin_cases k <;> simp <;> omega

/-- The parts of `STATUS` (R27), each read off by division. -/
theorem status_parts (s : State) :
    s.status % 2 = s.gfv.toNat ∧ s.status / 2 % 2 = s.flt.toNat ∧ s.status / 4 % 2 = s.tv.toNat ∧
      s.status / 8 % 2 = s.done.toNat ∧ s.status / 16 % 16 = s.ds.code ∧ s.status / 256 % 16 = s.ms.code ∧
      s.status / 4096 = s.svBits := by
  have hgfv := Bool.toNat_lt s.gfv
  have hflt := Bool.toNat_lt s.flt
  have htv := Bool.toNat_lt s.tv
  have hdone := Bool.toNat_lt s.done
  have hds := s.ds.code_lt_six
  have hms := MatrixStage.code_le_nine s.ms
  unfold State.status
  omega

theorem getLsbD_zext32 {n i : Nat} {b : Bool} (hi : i < 32) (h : n / 2 ^ i % 2 = b.toNat) : (zext32 n).getLsbD i = b := by
  rw [BitVec.getLsbD_ofNat, decide_eq_true hi, Bool.true_and, Nat.testBit_eq_decide_div_mod_eq, h]
  cases b <;> rfl

theorem extractLsb'_zext32 {n i w v : Nat} (hi : i + w ≤ 32) (h : n / 2 ^ i % 2 ^ w = v) :
    (zext32 n).extractLsb' i w = BitVec.ofNat w v := by
  refine BitVec.eq_of_getLsbD_eq fun j hj => ?_
  have hword : i + j < 32 := by omega
  rw [BitVec.getLsbD_extractLsb', BitVec.getLsbD_ofNat, BitVec.getLsbD_ofNat, ← h, Nat.testBit_mod_two_pow,
    Nat.testBit_div_two_pow, decide_eq_true hj, decide_eq_true hword, Nat.add_comm]

/-- Settles O20: `STATUS` is put together from its parts, and each other register is a field of the state
or its length. -/
theorem statusRegisters : Obligations.StatusRegisters := by
  refine ⟨fun a => decode_encode (.srRd a), fun s => ⟨⟨zext32 s.status, exec_srRd rfl, ?_⟩, exec_srRd rfl,
    exec_srRd_word rfl, exec_srRd_word rfl, exec_srRd rfl, exec_srRd rfl, exec_srRd rfl, exec_srRd rfl, exec_srRd rfl, exec_srRd rfl,
    exec_srRd rfl, exec_srRd rfl, exec_srRd rfl, exec_srRd_word rfl, exec_srRd_cc s, exec_srRd rfl, fun a ha hlive => ?_,
    fun a ha hdead => exec_srRd_of_dead hdead ha⟩⟩
  · obtain ⟨hgfv, hflt, htv, hdone, hds, hms, hsv⟩ := status_parts s
    obtain ⟨hlt, hbits⟩ := svBits_bits s
    refine ⟨getLsbD_zext32 (by decide) (by simpa using hgfv), getLsbD_zext32 (by decide) hflt,
      getLsbD_zext32 (by decide) htv, getLsbD_zext32 (by decide) hdone, extractLsb'_zext32 (by decide) hds, extractLsb'_zext32 (by decide) hms,
      fun k => getLsbD_zext32 (by omega) ?_, extractLsb'_zext32 (v := 0) (by decide) ?_⟩
    · rw [Nat.pow_add, ← Nat.div_div_eq_div_mul]
      exact hsv ▸ hbits k
    · omega
  · exact exec_of_raised (i := .srRd a) hlive (opOf_of_offending rfl (if_neg (Nat.not_le.mpr ha)))

/-! ### The per-tier table (R334) -/

/-- The fields 0 to 8 in the order of their numbers. -/
theorem exists_tblField {row : TierRow} {b : Byte} {v : Nat}
    (h : [row.cap, row.td, row.ec, row.g1b, row.g1w, row.g2b, row.g2w, row.rem, row.al.length][b.toNat]? = some v) :
    ∃ f, tblFieldOperand b = some f ∧ f.indexOk row 0 = true ∧ f.entry row 0 = v := by
  unfold tblFieldOperand
  match hn : b.toNat, h with
  | 0, rfl => exact ⟨.cap, rfl, rfl, rfl⟩
  | 1, rfl => exact ⟨.td, rfl, rfl, rfl⟩
  | 2, rfl => exact ⟨.ec, rfl, rfl, rfl⟩
  | 3, rfl => exact ⟨.g1b, rfl, rfl, rfl⟩
  | 4, rfl => exact ⟨.g1w, rfl, rfl, rfl⟩
  | 5, rfl => exact ⟨.g2b, rfl, rfl, rfl⟩
  | 6, rfl => exact ⟨.g2w, rfl, rfl, rfl⟩
  | 7, rfl => exact ⟨.rem, rfl, rfl, rfl⟩
  | 8, rfl => exact ⟨.nal, rfl, rfl, rfl⟩

/-- Every field but AL, which is number 9, has the one entry of index 0. -/
theorem exists_tblField_of_ne {b : Byte} (hb : b.toNat ≤ 11) (h9 : b.toNat ≠ 9) :
    ∃ f, tblFieldOperand b = some f ∧ ∀ row c, f.indexOk row c = (c == 0) := by
  unfold tblFieldOperand
  split
  case h_10 h => exact absurd h h9
  case h_13 =>
    simp only [imp_false] at *
    omega
  all_goals exact ⟨_, rfl, fun _ _ => rfl⟩

section TableRead

variable {s : State} {a b c : Byte} {f : TblField} (hlive : live s) (ha : 1 ≤ a.toNat ∧ a.toNat ≤ 40)
  (hf : tblFieldOperand b = some f)

include ha hf in
theorem opTblRd_of_field : opTblRd a b c s =
    if ¬ f.indexOk (s.rom.row a.toNat) c.toNat then rangeError c.toNat s
    else .done s (f.entry (s.rom.row a.toNat) c.toNat) := by
  rw [opTblRd, if_neg (not_not_intro (tierInRange_iff.mpr ha)), hf]

include hlive ha hf

theorem exec_tblRd {v : Nat} (hc : f.indexOk (s.rom.row a.toNat) c.toNat = true)
    (hv : f.entry (s.rom.row a.toNat) c.toNat = v) : exec (.tblRd a b c) s = .next { s with resp := ok v } := by
  have hop : opOf (.tblRd a b c) s = _ := opTblRd_of_field ha hf
  exact hv ▸ exec_of_done (.inr hlive) (hop.trans (if_neg (not_not_intro hc)))

theorem exec_tblRd_of_index (hc : f.indexOk (s.rom.row a.toNat) c.toNat ≠ true) :
    exec (.tblRd a b c) s = .next (trapped .rangeError c.toNat s) := by
  have hop : opOf (.tblRd a b c) s = _ := opTblRd_of_field ha hf
  exact exec_of_raised hlive (hop.trans (if_pos hc))

end TableRead

/-- Settles O21: the field is the one its number names, and its index is in range where the field has the entry. -/
theorem tableRead : Obligations.TableRead := by
  intro s a b c hlive
  refine ⟨decode_encode (.tblRd a b c), fun h1 h40 => ⟨?_, ?_, ?_, ?_, ?_, ?_, fun hb => ?_⟩, fun ha => ?_⟩
  · rintro f v hv rfl rfl
    obtain ⟨f, hf, hindex, hentry⟩ := exists_tblField hv
    exact exec_tblRd hlive ⟨h1, h40⟩ hf hindex hentry
  · rintro v rfl hv
    obtain ⟨hin, rfl⟩ := List.getElem?_eq_some_iff.mp hv
    exact exec_tblRd (f := .al) hlive ⟨h1, h40⟩ rfl (decide_eq_true hin) (List.getElem_eq_getD 0).symm
  · rintro rfl rfl
    exact exec_tblRd (f := .side) hlive ⟨h1, h40⟩ rfl rfl rfl
  · rintro rfl rfl
    exact exec_tblRd (f := .cntW) hlive ⟨h1, h40⟩ rfl rfl rfl
  · rintro rfl hout
    exact exec_tblRd_of_index (f := .al) hlive ⟨h1, h40⟩ rfl
      fun hin => Nat.not_lt.mpr hout (of_decide_eq_true hin)
  · intro hb h9 hc
    obtain ⟨f, hf, hindex⟩ := exists_tblField_of_ne hb fun h => h9 (BitVec.eq_of_toNat_eq h)
    refine exec_tblRd_of_index hlive ⟨h1, h40⟩ hf fun hzero => hc (BitVec.eq_of_toNat_eq ?_)
    rw [hindex] at hzero
    exact eq_of_beq hzero
  · have hout : offending (.tblRd a b c) = some b.toNat :=
      (if_neg (not_not_intro ⟨h1, h40⟩)).trans (if_neg (Nat.not_le.mpr hb))
    exact exec_of_raised hlive (opOf_of_offending rfl hout)
  · exact exec_of_raised (i := .tblRd a b c) hlive (opOf_of_offending rfl (if_pos ha))

end Sys2Proof.Machine

/-! ## ENCODE -/

namespace Sys2Proof.Machine

open Sys2Proof.Safety

/-! ### The commands of the pipeline and the response given before them (R361) -/

/-- A result whose state has a response, which is given before the result is settled. -/
def Result.answering (r : Result) (a : Response) : Result :=
  match r with
  | .done s v => .done (s.respondWith a) v
  | .raised s c n => .raised (s.respondWith a) c n

/-- Settling a result overwrites the response (R43). -/
theorem settle_answering (r : Result) (a : Response) : (r.answering a).settle = r.settle := by
  cases r with
  | done s v => rfl
  | raised s c n =>
    show (s.respondWith a).faultEntry c n = s.faultEntry c n
    unfold State.faultEntry
    rw [State.respondWith_flt]
    split <;> rfl

/-- A check that does not look at the response, in front of an operation that does not. -/
theorem answering_guard {s : State} {a : Response} {c : Prop} [Decidable c] {code : FaultCode} {n : Nat} {r r' : Result}
    (h : r' = r.answering a) :
    (if c then .raised (s.respondWith a) code n else r') = (if c then .raised s code n else r).answering a := by
  split
  · rfl
  · exact h

theorem answering_respond {r r' : Result} {a : Response} {f : State → Nat} (h : r' = r.answering a)
    (hf : ∀ s, f (s.respondWith a) = f s) : r'.respond f = (r.respond f).answering a := by
  subst h
  cases r with
  | done s v => exact congrArg (Result.done _) (hf s)
  | raised s c n => rfl

section Responded

variable (s : State) (a : Response)

theorem opVsel_respondWith : opVsel (s.respondWith a) = (opVsel s).answering a := answering_guard (answering_guard rfl)

theorem opBsb_respondWith : opBsb (s.respondWith a) = (opBsb s).answering a := by
  refine answering_guard ?_
  rw [show buildStream (s.respondWith a).rom (s.respondWith a).text (s.respondWith a).row =
    buildStream s.rom s.text s.row from rfl]
  cases buildStream s.rom s.text s.row <;> rfl

theorem opRsSplit_respondWith : opRsSplit (s.respondWith a) = (opRsSplit s).answering a :=
  answering_guard (answering_guard rfl)

theorem opRsEccAll_respondWith : opRsEccAll (s.respondWith a) = (opRsEccAll s).answering a := by
  by_cases hds : s.eccStage = true
  · rw [opRsEccAll_done hds, opRsEccAll_done (s := s.respondWith a) hds, eccBlocks_respondWith]
    rfl
  · rw [opRsEccAll, opRsEccAll, if_pos hds, if_pos (show ¬ (s.respondWith a).eccStage = true from hds)]
    rfl

theorem opRsIlv_respondWith : opRsIlv (s.respondWith a) = (opRsIlv s).answering a := answering_guard rfl

theorem opMxPlace_respondWith : opMxPlace (s.respondWith a) = (opMxPlace s).answering a :=
  answering_guard (answering_guard rfl)

theorem fixed_respondWith : (s.respondWith a).fixed = s.fixed.respondWith a := by
  rw [State.fixed, show (s.respondWith a).allocated = s.allocated.respondWith a from rfl, found_respondWith,
    separated_respondWith, patterned_respondWith, timed_respondWith, darkened_respondWith, formatted_respondWith,
    State.fixed]

theorem opMxBuild_respondWith : opMxBuild (s.respondWith a) = (opMxBuild s).answering a := by
  by_cases hstage : s.ms = .none ∧ s.ds = .final
  · rw [opMxBuild_eq hstage.2 hstage.1, opMxBuild_eq (s := s.respondWith a) hstage.2 hstage.1, fixed_respondWith]
    exact answering_respond (opMxPlace_respondWith ..) fun _ => rfl
  · rw [opMxBuild, opMxBuild, if_pos hstage,
      if_pos (show ¬ ((s.respondWith a).ms = .none ∧ (s.respondWith a).ds = .final) from hstage)]
    rfl

theorem tryMask_respondWith (best : Option (MaskIdx × Nat)) (k : MaskIdx) :
    tryMask (s.respondWith a, best) k = ((tryMask (s, best) k).1.respondWith a, (tryMask (s, best) k).2) := by
  cases best with
  | none => rfl
  | some kept =>
    unfold tryMask
    dsimp only
    rw [show ((s.respondWith a).applyMask k).trialScore = (s.applyMask k).trialScore from rfl]
    split <;> rfl

theorem opMkTryall_respondWith : opMkTryall (s.respondWith a) = (opMkTryall s).answering a := by
  refine answering_guard ?_
  have hfold : (List.finRange 8).foldl tryMask (s.respondWith a, none) = _ :=
    List.foldl_hom (init := (s, none)) (fun acc : State × Option (MaskIdx × Nat) => (acc.1.respondWith a, acc.2))
      fun acc k => tryMask_respondWith acc.1 a acc.2 k
  rw [hfold]
  rfl

end Responded

/-! ### The pipeline records no fault before it is settled (R356) -/

theorem flt_guard {s : State} {c : Prop} [Decidable c] {code : FaultCode} {n : Nat} {r : Result}
    (h : r.state.flt = s.flt) : (if c then .raised s code n else r).state.flt = s.flt := by
  split
  · rfl
  · exact h

section Live

variable (s : State)

theorem flt_opBsb : (opBsb s).state.flt = s.flt := by
  refine flt_guard ?_
  cases buildStream s.rom s.text s.row <;> rfl

theorem flt_eccBlocks (blocks : List Nat) : (s.eccBlocks blocks).flt = s.flt := by
  induction blocks generalizing s with
  | nil => rfl
  | cons b blocks ih => exact (ih (s.eccBlock b)).trans (eccBlock_flt s b)

theorem flt_opRsEccAll : (opRsEccAll s).state.flt = s.flt := by
  by_cases hds : s.eccStage = true
  · rw [opRsEccAll_done hds]
    exact flt_eccBlocks s _
  · rw [opRsEccAll, if_pos hds]
    rfl

theorem flt_opMxPlace : (opMxPlace s).state.flt = s.flt := flt_guard (flt_guard rfl)

theorem flt_opMxBuild : (opMxBuild s).state.flt = s.flt := by
  by_cases hstage : s.ms = .none ∧ s.ds = .final
  · rw [opMxBuild_eq hstage.2 hstage.1, respond_state]
    exact (flt_opMxPlace s.fixed).trans (buildFrame_fixed s).flt
  · rw [opMxBuild, if_pos hstage]
    rfl

theorem flt_opMkTryall : (opMkTryall s).state.flt = s.flt := by
  by_cases hms : 8 ≤ s.ms.code
  · obtain ⟨kept, score, -, -, hop⟩ := opMkTryall_done hms
    rw [hop]
    rfl
  · rw [opMkTryall, if_pos hms]
    rfl

end Live

/-! ### The chain of operations and the chain of commands (R361) -/

/-- The seven commands ENCODE executes (R333). -/
def encodeSteps : List Instr := [.vsel, .bsb, .rsSplit, .rsEccAll, .rsIlv, .mxBuild, .mkTryall]

/-- The operations of some commands one after another, a fault ending the chain (R361). -/
def Result.chain (r : Result) (is : List Instr) : Result := is.foldl (fun r i => r.andThen (opOf i)) r

theorem chain_raised (s : State) (c : FaultCode) (n : Nat) (is : List Instr) :
    (Result.raised s c n).chain is = .raised s c n := by
  induction is with
  | nil => rfl
  | cons i is ih => exact ih

theorem chain_append (r : Result) (is js : List Instr) : r.chain (is ++ js) = (r.chain is).chain js :=
  List.foldl_append ..

theorem opEncodeJob_eq_chain {s : State} (hds : s.ds = .text) (hms : s.ms = .none) :
    opEncodeJob s = (Result.done s 0).chain encodeSteps := if_neg (not_not_intro ⟨hds, hms⟩)

section EncodeSteps

variable {i : Instr} (hi : i ∈ encodeSteps) (s : State)

include hi

/-- None of the seven looks at the response given before it. -/
theorem opOf_respondWith_of_encodeStep (a : Response) : opOf i (s.respondWith a) = (opOf i s).answering a := by
  simp only [encodeSteps, List.mem_cons, List.not_mem_nil, or_false] at hi
  obtain rfl | rfl | rfl | rfl | rfl | rfl | rfl := hi
  · exact opVsel_respondWith s a
  · exact opBsb_respondWith s a
  · exact opRsSplit_respondWith s a
  · exact opRsEccAll_respondWith s a
  · exact opRsIlv_respondWith s a
  · exact opMxBuild_respondWith s a
  · exact opMkTryall_respondWith s a

theorem flt_opOf_of_encodeStep : (opOf i s).state.flt = s.flt := by
  simp only [encodeSteps, List.mem_cons, List.not_mem_nil, or_false] at hi
  obtain rfl | rfl | rfl | rfl | rfl | rfl | rfl := hi
  · exact flt_guard (flt_guard rfl)
  · exact flt_opBsb s
  · exact flt_guard (flt_guard rfl)
  · exact flt_opRsEccAll s
  · exact flt_guard rfl
  · exact flt_opMxBuild s
  · exact flt_opMkTryall s

end EncodeSteps

/-- The states agree but for the response. -/
def SameJob (s t : State) : Prop := ∀ a, s.respondWith a = t.respondWith a

theorem opOf_answering_of_sameJob {i : Instr} (hi : i ∈ encodeSteps) {s t : State} (h : SameJob s t) (a : Response) :
    (opOf i s).answering a = (opOf i t).answering a := by
  rw [← opOf_respondWith_of_encodeStep hi, ← opOf_respondWith_of_encodeStep hi, h a]

/-- An operation that completes does so alike in a state that agrees but for the response. -/
theorem opOf_done_of_sameJob {i : Instr} (hi : i ∈ encodeSteps) {s t u : State} {n : Nat} (h : SameJob s t)
    (hop : opOf i t = .done u n) : ∃ v, opOf i s = .done v n ∧ SameJob v (u.complete n) := by
  have hsame := opOf_answering_of_sameJob hi h
  rw [hop] at hsame
  cases hs : opOf i s with
  | done v m =>
    simp only [hs, Result.answering, Result.done.injEq] at hsame
    obtain rfl := (hsame ⟨true, 0⟩).2
    exact ⟨v, rfl, fun a => (hsame a).1⟩
  | raised v c m =>
    rw [hs] at hsame
    cases hsame ⟨true, 0⟩

/-- Commands that all complete, one after another. -/
theorem execAll_cons_eq_some {i : Instr} {is : List Instr} {s t : State} (h : execAll (i :: is) s = some t) :
    ∃ u n, opOf i s = .done u n ∧ execAll is (u.complete n) = some t := by
  obtain ⟨w, hw, r, hr, -⟩ := exec_answered i s
  rw [execAll, hw] at h
  obtain ⟨ok, v⟩ := r
  cases ok with
  | false => simp [hr] at h
  | true =>
    obtain ⟨-, u, n, hop, rfl⟩ := exec_completes hw hr
    exact ⟨u, n, hop, by simpa [hr] using h⟩

/-- What commands of the pipeline leave one after another, their operations leave in a chain, but for the response. -/
theorem chain_of_execAll {is : List Instr} (his : ∀ i ∈ is, i ∈ encodeSteps) {s t u : State} (hsame : SameJob u s)
    (h : execAll is s = some t) (v : Nat) :
    ∃ w n, (Result.done u v).chain is = .done w n ∧ SameJob w t ∧ t.flt = s.flt := by
  induction is generalizing s u v with
  | nil =>
    obtain rfl := Option.some.inj h
    exact ⟨u, v, rfl, hsame, rfl⟩
  | cons i is ih =>
    obtain ⟨hi, his⟩ := List.forall_mem_cons.mp his
    obtain ⟨s', n, hop, hrest⟩ := execAll_cons_eq_some h
    obtain ⟨u', hop', hsame'⟩ := opOf_done_of_sameJob hi hsame hop
    obtain ⟨w, m, hchain, hw, hflt⟩ := ih his hsame' hrest n
    refine ⟨w, m, ?_, hw, hflt.trans ?_⟩
    · rw [← hchain, ← hop']
      rfl
    · have hkept := flt_opOf_of_encodeStep hi s
      rwa [hop] at hkept

/-- The last command of a list settles what the chain of the operations leaves. -/
theorem settle_chain_concat {is : List Instr} {i : Instr} (his : ∀ j ∈ is ++ [i], j ∈ encodeSteps) {s t u : State}
    (hlive : live s) (hall : execAll is s = some u) (hexec : exec i u = .next t) (v : Nat) :
    ((Result.done s v).chain (is ++ [i])).settle = t := by
  obtain ⟨his, hi⟩ := List.forall_mem_append.mp his
  have hi := hi i (List.mem_singleton_self i)
  obtain ⟨w, n, hchain, hsame, hflt⟩ := chain_of_execAll his (fun _ => rfl) hall v
  have hrun : exec i u = .next (opOf i u).settle := by
    rw [exec_eq_run]
    split
    · rfl
    · exact runLive_of_live (hflt.trans hlive) _
  have hanswer := opOf_answering_of_sameJob hi hsame ⟨true, 0⟩
  rw [chain_append, hchain]
  show (opOf i w).settle = t
  rw [← settle_answering (opOf i w) ⟨true, 0⟩, hanswer, settle_answering]
  exact Host.Outcome.next.inj (hrun.symm.trans hexec)

theorem execAll_concat_eq_some {is : List Instr} {i : Instr} {s t : State} (h : execAll (is ++ [i]) s = some t) :
    ∃ u, execAll is s = some u ∧ exec i u = .next t := by
  induction is generalizing s with
  | nil =>
    obtain ⟨w, hw, -⟩ := exec_answered i s
    rw [List.nil_append, execAll, hw] at h
    dsimp only at h
    split at h
    · exact ⟨s, rfl, hw.trans (congrArg _ (Option.some.inj h))⟩
    · cases h
  | cons j is ih =>
    obtain ⟨w, hw, -⟩ := exec_answered j s
    rw [List.cons_append, execAll, hw] at h
    rw [execAll, hw]
    dsimp only at h ⊢
    split at h
    next hok =>
      rw [if_pos hok]
      exact ih h
    · cases h

/-- A chain that ends with MK.TRYALL completes with its response, `BEST` (R305, R333). -/
theorem val_of_andThen_opMkTryall {r : Result} {u : State} {n : Nat} (h : r.andThen opMkTryall = .done u n) :
    n = u.best.val := by
  cases r with
  | raised s c m => cases h
  | done s m =>
    rw [andThen_done, opMkTryall] at h
    split at h
    · cases h
    · cases h
      rfl

/-- Settles O23: the chain of operations is the chain of commands but for the responses, so it completes with the last of
them or faults with the first that does. -/
theorem encodeIsItsSevenCommands : Obligations.EncodeIsItsSevenCommands := by
  refine ⟨decode_encode .encodeJob,
    fun s hlive => ⟨fun hstage => exec_of_raised hlive (if_pos hstage), fun hds hms => ?_⟩⟩
  have hop : opOf .encodeJob s = _ := opEncodeJob_eq_chain hds hms
  have hrun : exec .encodeJob s = .next ((Result.done s 0).chain encodeSteps).settle := hop ▸ runLive_of_live hlive _
  refine ⟨fun t hall => ?_, fun before i after u t hsteps hall hexec hresp => ?_⟩
  · obtain ⟨u, hsix, hexec⟩ :=
      execAll_concat_eq_some (is := [.vsel, .bsb, .rsSplit, .rsEccAll, .rsIlv, .mxBuild]) hall
    have hsettle := settle_chain_concat (fun _ => id) hlive hsix hexec 0
    obtain ⟨w, n, hchain, -⟩ := chain_of_execAll (is := encodeSteps) (fun _ => id) (fun _ => rfl) hall 0
    obtain rfl : w.complete n = t := (congrArg Result.settle hchain).symm.trans hsettle
    obtain rfl := val_of_andThen_opMkTryall hchain
    exact ⟨exec_of_done (.inr hlive) (hop.trans hchain), rfl⟩
  · have hsteps : encodeSteps = (before ++ [i]) ++ after := by rw [List.append_assoc]; exact hsteps
    have hmem : ∀ j ∈ before ++ [i], j ∈ encodeSteps := fun j hj => hsteps ▸ List.mem_append_left after hj
    have hsettle := settle_chain_concat hmem hlive hall hexec 0
    rw [hrun, hsteps, chain_append]
    cases hchain : (Result.done s 0).chain (before ++ [i]) with
    | done w n =>
      rw [hchain] at hsettle
      subst hsettle
      cases hresp
    | raised w c n => rw [chain_raised, ← hchain, hsettle]

end Sys2Proof.Machine

/-! ## ENCODE on a text that fits -/

namespace Sys2Proof.Machine

open Sys2Proof.Safety

/-! ### The stream of a text, step by step (R142 to R148, R223 to R227) -/

theorem exists_buildStream {text : List Byte} {v : Nat} (h1 : 1 ≤ v) (h40 : v ≤ 40)
    (hlen : text.length ≤ (Rom.standard.row v).cap) :
    ∃ bits, buildStream Rom.standard text (Rom.standard.row v) = some bits := by
  obtain ⟨-, hcnt, -⟩ := standard_row_relations v (List.mem_range'_1.mpr ⟨h1, Nat.lt_succ_of_le h40⟩)
  have hcap := standard_row_stream h1 h40
  have hhead := length_streamHead Rom.standard text (Rom.standard.row v)
  have hbyte : (Rom.standard.row v).cntW % 8 = 0 := by
    rw [hcnt]
    split <;> rfl
  exact ⟨_, buildStream_of_fits (congrArg (· + 4) hhead) (by omega) (by omega)⟩

/-- The first `n` blocks of a fresh split done: `n` marks are counted, and the last block closes the stage (R224). -/
theorem eccBlocks_of_unmarked {s : State} (hfresh : ∀ b, s.ev b = false) (hcount : s.evcnt = 0) (n : Nat) : ∃ e d,
    s.eccBlocks (List.range n) = { s with e := e, evcnt := n, ds := d } ∧
      (∀ b, n ≤ b → e.getD b none = none) ∧ (0 < n → n = s.nblk → d = .eccDone) := by
  induction n with
  | zero =>
    refine ⟨s.e, s.ds, congrArg (fun m => { s with evcnt := m }) hcount, fun b _ => ?_, nofun⟩
    exact Option.isNone_iff_eq_none.mp (by simpa [State.ev, State.redundancy] using hfresh b)
  | succ n ih =>
    obtain ⟨e, d, heq, hopen, -⟩ := ih
    have hev : (s.eccBlocks (List.range n)).ev n = false := by
      rw [heq, State.ev, State.redundancy, hopen n (Nat.le_refl n)]
      rfl
    rw [eccBlocks_range_succ, eccBlock_eq, hev, heq]
    refine ⟨_, _, rfl, fun b hb => ?_, fun _ hall => if_pos hall⟩
    have hne : n ≠ b := by omega
    rw [List.getD_eq_getElem?_getD, List.getElem?_set_ne hne, ← List.getD_eq_getElem?_getD]
    exact hopen b (by omega)

/-- RS.ECCALL on a fresh split closes the stage (R225). -/
theorem opRsEccAll_of_unmarked {s : State} (hds : s.ds = .split) (hfresh : ∀ b, s.ev b = false) (hcount : s.evcnt = 0)
    (hpos : 0 < s.nblk) : ∃ e n, opRsEccAll s = .done { s with e := e, evcnt := s.nblk, ds := .eccDone } n := by
  obtain ⟨e, d, heq, -, hclosed⟩ := eccBlocks_of_unmarked hfresh hcount s.nblk
  obtain rfl := hclosed hpos rfl
  exact ⟨e, _, heq ▸ opRsEccAll_done (eccStage_iff.mpr (.inl hds))⟩

/-- After VSEL (R143). -/
def State.tierChosen (s : State) : State := { s with tier := selectTier s.rom s.text.length, ds := .tiered }

theorem opVsel_done {s : State} (hds : s.ds = .text) (hlen : s.text.length ≤ 1663) :
    opVsel s = .done s.tierChosen s.tierChosen.tier :=
  (if_neg (not_not_intro hds)).trans (if_neg (Nat.not_lt.mpr hlen))

/-- After RS.SPLIT (R223). -/
def State.blocksFilled (s : State) : State :=
  { s with
    nblk := s.row.blocks, d := splitBlocks s.row (dataCodewords s.bits s.row.td), e := List.replicate s.row.blocks none,
    evcnt := 0, ds := .split }

theorem opRsSplit_done {s : State} (hds : s.ds = .padded) (hsum : s.row.consistent = true) :
    opRsSplit s = .done s.blocksFilled s.row.blocks :=
  (if_neg (not_not_intro hds)).trans (if_neg (not_not_intro hsum))

theorem ev_blocksFilled (s : State) (b : Nat) : s.blocksFilled.ev b = false := by
  rw [State.ev, State.redundancy, State.blocksFilled, List.getD_eq_getElem?_getD, List.getElem?_replicate]
  split <;> rfl

/-- After RS.ILV (R227). -/
def State.interleavedFinal (s : State) : State := { s with final := finalBits s, ds := .final }

theorem opRsIlv_done {s : State} (hds : s.ds = .eccDone) :
    opRsIlv s = .done s.interleavedFinal (finalBits s).length := if_neg (not_not_intro hds)

/-- VSEL and BSB complete on a text that some tier holds (R143, R146). -/
theorem exists_padded {s : State} (hrom : s.rom = Rom.standard) (hds : s.ds = .text) (hbits : s.bits = [])
    (hlen : s.text.length ≤ 1663) :
    ∃ bits, (opVsel s).andThen opBsb = .done { s.tierChosen with bits := bits, ds := .padded } bits.length := by
  obtain ⟨h1, h40⟩ := selectTier_bounds hrom s.text.length
  obtain ⟨bits, hstream⟩ : ∃ bits, buildStream s.tierChosen.rom s.tierChosen.text s.tierChosen.row = some bits := by
    rw [State.row, show s.tierChosen.rom = Rom.standard from hrom]
    exact exists_buildStream h1 h40 (hrom ▸ le_cap_selectTier hlen)
  refine ⟨bits, ?_⟩
  rw [opVsel_done hds hlen, andThen_done]
  exact opBsb_of_stream rfl hbits hstream

/-- The final sequence of the tier of `s` is there, and what else the matrix builder reads is as it was. -/
structure Streamed (s u : State) : Prop where
  rom : u.rom = s.rom
  flt : u.flt = s.flt
  ms : u.ms = s.ms
  tier : u.tier = s.tier
  ds : u.ds = .final
  final : u.final.length = 8 * s.row.tc + s.row.rem

theorem Streamed.row {s u : State} (h : Streamed s u) : u.row = s.row := by rw [State.row, h.rom, h.tier, State.row]

/-- RS.SPLIT, RS.ECCALL and RS.ILV complete on a full stream of a printed tier (R223, R225, R227). -/
theorem exists_streamed_of_padded {s : State} (hrom : s.rom = Rom.standard) (h1 : 1 ≤ s.tier) (h40 : s.tier ≤ 40)
    (hds : s.ds = .padded) :
    ∃ u n, ((opRsSplit s).andThen opRsEccAll).andThen opRsIlv = .done u n ∧ Streamed s u := by
  have hsum : s.row.consistent = true := s.row.consistent_iff.mpr (row_fits hrom).consistent
  have hpos : 0 < s.row.blocks := by
    rw [State.row, hrom]
    exact standard_row_blocks_pos h1 h40
  obtain ⟨e, n, hecc⟩ := opRsEccAll_of_unmarked rfl (ev_blocksFilled s) rfl hpos
  have hilv := opRsIlv_done (s := { s.blocksFilled with e := e, evcnt := s.row.blocks, ds := .eccDone }) rfl
  rw [opRsSplit_done hds hsum, andThen_done, hecc, andThen_done]
  exact ⟨_, _, hilv, rfl, rfl, rfl, rfl, rfl, length_finalBits hrom (fun _ => ⟨rfl, length_splitBlocks ..⟩)
    (show 3 ≤ DataStage.code .eccDone by decide)⟩

/-- The five commands of the data path complete on a text that some tier holds (R333). -/
theorem exists_streamed_of_text {s : State} (hrom : s.rom = Rom.standard) (hds : s.ds = .text) (hbits : s.bits = [])
    (hlen : s.text.length ≤ 1663) :
    ∃ u n, ((((opVsel s).andThen opBsb).andThen opRsSplit).andThen opRsEccAll).andThen opRsIlv = .done u n ∧
      Streamed s.tierChosen u := by
  obtain ⟨h1, h40⟩ := selectTier_bounds hrom s.text.length
  obtain ⟨bits, hfront⟩ := exists_padded hrom hds hbits hlen
  obtain ⟨u, n, hblocks, hu⟩ :=
    exists_streamed_of_padded (s := { s.tierChosen with bits := bits, ds := .padded }) hrom h1 h40 rfl
  refine ⟨u, n, ?_, hu.rom, hu.flt, hu.ms, hu.tier, hu.ds, hu.final⟩
  rw [hfront, andThen_done]
  exact hblocks

/-! ### The symbol of a text (R263, R305, R333) -/

/-- MX.BUILD completes on the final sequence of a printed tier (R263). -/
theorem opMxBuild_done {s : State} (hrom : s.rom = Rom.standard) (h1 : 1 ≤ s.tier) (h40 : s.tier ≤ 40)
    (hds : s.ds = .final) (hms : s.ms = .none) (hlen : s.final.length = 8 * s.row.tc + s.row.rem) :
    ∃ n, opMxBuild s = .done s.fixed.placed n := by
  have hframe := buildFrame_fixed s
  have hcount := (length_zigzag_fixed hrom h1 h40).trans (hlen.symm.trans (congrArg List.length hframe.final).symm)
  rw [opMxBuild_eq hds hms, opMxPlace_done (fixed_ms s) (hframe.ds.trans hds) hcount, respond_done]
  exact ⟨_, rfl⟩

theorem buildFrame_placed (s : State) : BuildFrame s s.placed := rfl

/-- A job with a text that some tier holds reaches MK.TRYALL with its final sequence placed in the grid (R333). -/
theorem opEncodeJob_eq_tryall {s : State} (hrom : s.rom = Rom.standard) (hds : s.ds = .text) (hms : s.ms = .none)
    (hbits : s.bits = []) (hlen : s.text.length ≤ 1663) : ∃ u m, Streamed s.tierChosen u ∧ BuildFrame u m ∧
      m.ms = .placed ∧ m.size = u.row.side ∧ opEncodeJob s = opMkTryall m := by
  obtain ⟨h1, h40⟩ := selectTier_bounds hrom s.text.length
  obtain ⟨u, n, hchain, hu⟩ := exists_streamed_of_text hrom hds hbits hlen
  obtain ⟨k, hbuild⟩ := opMxBuild_done (hu.rom.trans hrom) (hu.tier ▸ h1) (hu.tier ▸ h40) hu.ds (hu.ms.trans hms)
    (hu.row ▸ hu.final)
  refine ⟨u, u.fixed.placed, hu, (buildFrame_fixed u).trans (buildFrame_placed _), rfl, fixed_size u, ?_⟩
  rw [opEncodeJob, if_neg (not_not_intro ⟨hds, hms⟩), hchain, andThen_done, hbuild, andThen_done]

/-- A text that no tier holds ends the chain with its first command (R143, R352). -/
theorem opEncodeJob_of_long {s : State} (hds : s.ds = .text) (hms : s.ms = .none) (hlong : 1663 < s.text.length) :
    opEncodeJob s = .raised s .capacityExceeded s.text.length := by
  have hvsel : opOf .vsel s = .raised s .capacityExceeded s.text.length :=
    (if_neg (not_not_intro hds)).trans (if_pos hlong)
  rw [opEncodeJob_eq_chain hds hms, encodeSteps, Result.chain, List.foldl_cons, andThen_done, hvsel]
  exact chain_raised ..

/-- Settles O24: each of the seven commands completes on what the ones before left, and the last tries every mask. -/
theorem encodeSucceeds : Obligations.EncodeSucceeds := by
  intro s hlive hrom hds hms hbits
  refine ⟨fun hlen => ?_, fun hlong => exec_of_raised (i := .encodeJob) hlive (opEncodeJob_of_long hds hms hlong)⟩
  obtain ⟨h1, h40⟩ := selectTier_bounds (rfl : Rom.standard = _) s.text.length
  have hholds := le_cap_selectTier hlen
  have hsmallest := fun v => cap_lt_of_lt_selectTier (u := v) hlen
  obtain ⟨u, m, hu, hframe, hplaced, hsize, hop⟩ := opEncodeJob_eq_tryall hrom hds hms hbits hlen
  have htier : m.tier = selectTier Rom.standard s.text.length := by rw [hframe.tier, hu.tier, State.tierChosen, hrom]
  have hrow : u.row = Rom.standard.row m.tier := by rw [State.row, hu.rom, hframe.tier, ← hrom]; rfl
  rw [← htier] at h1 h40 hholds hsmallest
  have hside : m.size = 21 + 4 * (m.tier - 1) := by rw [hsize, hrow, (standard_row_side h1 h40).1]
  have hfinal : m.final.length = 8 * (Rom.standard.row m.tier).tc + (Rom.standard.row m.tier).rem := by
    rw [hframe.final, hu.final, ← hu.row, hrow]
  obtain ⟨kept, score, hbest, -, htry⟩ := opMkTryall_done (s := m) (by rw [hplaced]; decide)
  have hexec := exec_of_done (i := .encodeJob) (.inr hlive) (hop.trans htry)
  have hkept := (frame_exec (i := .encodeJob) nofun hexec).spaces
  exact ⟨_, hexec, rfl, hframe.flt.trans (hu.flt.trans hlive), hframe.ds.trans hu.ds, rfl, hkept .text (by decide),
    hkept .poly (by decide), h1, h40, hside, hholds, hsmallest, hfinal, rfl,
    fun k => hbest.least k (List.mem_finRange k), fun k => hbest.first k (List.mem_finRange k)⟩

end Sys2Proof.Machine

/-! ## The dead job, and the values after reset -/

namespace Sys2Proof.Machine

open Sys2Proof.Safety

/-- Settles O7: the values are read off the reset state, and JOB.NEW is that state with ROM, counter and channels kept. -/
theorem resetValues : Obligations.ResetValues := by
  have hpoly : ∀ p ∈ polyRegs State.reset, p.length = 0 := by decide
  refine ⟨rfl, rfl, rfl, rfl, rfl, rfl, rfl, rfl, rfl, rfl, rfl, rfl, rfl, rfl, rfl, rfl, rfl, rfl, hpoly,
    fun _ => ⟨rfl, rfl⟩, rfl, fun s hrom => ?_⟩
  rw [exec_jobNew, State.newJob, hrom]
  rfl

/-- Settles O54: nothing is recorded and no grid is in use, and the buffers are empty. -/
theorem invariantsAtReset : Obligations.InvariantsAtReset :=
  have hform : memoryWf State.reset = true := by decide
  ⟨dataInv_reset, matrixInv_reset, ⟨rfl, fun _ => ⟨rfl, rfl⟩⟩, polyInv_of_memoryWf hform,
    locatorInv_of_ms_none matrixInv_reset rfl, blankInv_of_ms_none matrixInv_reset rfl, hform⟩

/-- Settles O10: a command that is not exempt runs its operation in a live job alone. -/
theorem deadJobRefuses : Obligations.DeadJobRefuses := by
  intro i s hdead hexempt
  rw [exec_eq_run, hexempt]
  exact runLive_of_dead hdead _

/-- R26: the sixteen registers are there. -/
theorem exists_statusRegister (s : State) {n : Nat} (h : n ≤ 15) : ∃ v, s.statusRegister n = some v := by
  unfold State.statusRegister
  split
  case h_17 =>
    simp only [imp_false] at *
    omega
  all_goals exact ⟨_, rfl⟩

/-- Settles O11: NOP and JOB.NEW do what they do in a live job, SR.RD reads or finds its register out of range. -/
theorem deadJobExemptCommands : Obligations.DeadJobExemptCommands := by
  intro s hdead
  obtain ⟨-, -, hboth⟩ := nopAndJobNew
  obtain ⟨hnop, hjob⟩ := hboth s
  refine ⟨hnop, fun a ha => ?_, fun a ha => exec_srRd_of_dead hdead ha, ⟨_, hjob, rfl, rfl, rfl, rfl, rfl⟩⟩
  obtain ⟨v, hv⟩ := exists_statusRegister s ha
  exact ⟨v, exec_srRd hv⟩

end Sys2Proof.Machine

/-! ## The stage and the faults of each command -/

namespace Sys2Proof.Machine

open Sys2Proof.Safety

/-! ### The stage check of each operation (R395) -/

/-- The stage each operation checks, in the model's own terms.  The commands without a stage precondition check none. -/
def StageCheck (s : State) : Instr → Prop
  | .txtPush _ | .vsel | .vset _ => s.ds = .text
  | .bsb => s.ds = .tiered ∧ s.blen = 0
  | .dcwPush _ | .dcwSeal => s.ds = .tiered
  | .rsSplit => s.ds = .padded
  | .rsEcc _ | .rsEccAll => s.eccStage = true
  | .rsSyn a | .rsRde a _ => 3 ≤ s.ds.code ∧ s.ev a.toNat = true
  | .rsRdd _ _ => 3 ≤ s.ds.code
  | .rsIlv => s.ds = .eccDone
  | .mxAlloc | .mxFixed => 1 ≤ s.ds.code ∧ s.ms = .none
  | .mxFind => s.ms = .alloc
  | .mxSep => s.ms = .find
  | .mxAlign => s.ms = .sep
  | .mxTiming => s.ms = .align
  | .mxDark => s.ms = .timing
  | .mxFmt => s.ms = .dark
  | .mxPlace => s.ms = .fixed ∧ s.ds = .final
  | .mxBuild => s.ms = .none ∧ s.ds = .final
  | .mkApply _ | .mkTryall => 8 ≤ s.ms.code
  | .mkP1 | .mkP2 | .mkP3 | .mkP4 | .mkScore => s.tv = true
  | .mkRds a => ∀ k, maskOperand a = some k → s.sv k = true
  | .gridRd a _ _ => ∀ sel, gridOperand a = some sel → s.gridValid sel = true
  | .encodeJob => s.ds = .text ∧ s.ms = .none
  | .nop | .jobNew | .srRd _ | .tblRd _ _ _ | .txtRd _ | .bitsRd _ _ | .bitsRdb _ _ | .gfExp _ => True
  | .gfLog _ | .gfMul _ _ | .gfAdd _ _ | .pClr _ | .pPush _ _ | .pRd _ _ | .pLen _ | .pMul | .pDiv => True
  | .pGen _ | .pSyn _ | .pMov _ _ | .mkBit _ _ _ => True

theorem DataStage.code_beq_iff (d e : DataStage) : (d.code == e.code) = true ↔ d = e := by
  cases d <;> cases e <;> decide

theorem MatrixStage.code_beq_iff (m k : MatrixStage) : (m.code == k.code) = true ↔ m = k := by
  cases m <;> cases k <;> decide

/-- The column "requires" of R395 is what the operations check. -/
theorem stageOk_iff (s : State) (i : Instr) : stageOk s i = true ↔ StageCheck s i := by
  have hds := s.ds.code_beq_iff
  have hms := s.ms.code_beq_iff
  cases i with
  | txtPush a | vsel | vset a => exact hds .text
  | dcwPush a | dcwSeal => exact hds .tiered
  | rsSplit => exact hds .padded
  | rsIlv => exact hds .eccDone
  | rsEcc a | rsEccAll => exact Bool.or_eq_true_iff.trans ((or_congr (hds .split) (hds .eccDone)).trans eccStage_iff.symm)
  | bsb => exact Bool.and_eq_true_iff.trans (and_congr (hds .tiered) beq_iff_eq)
  | rsSyn a | rsRde a b => exact Bool.and_eq_true_iff.trans (and_congr_left' decide_eq_true_iff)
  | rsRdd a b | mkApply a | mkTryall => exact decide_eq_true_iff
  | mxAlloc | mxFixed => exact Bool.and_eq_true_iff.trans (and_congr decide_eq_true_iff (hms .none))
  | mxFind => exact hms .alloc
  | mxSep => exact hms .find
  | mxAlign => exact hms .sep
  | mxTiming => exact hms .align
  | mxDark => exact hms .timing
  | mxFmt => exact hms .dark
  | mxPlace => exact Bool.and_eq_true_iff.trans ((and_congr (hds .final) (hms .fixed)).trans and_comm)
  | mxBuild => exact Bool.and_eq_true_iff.trans ((and_congr (hds .final) (hms .none)).trans and_comm)
  | encodeJob => exact Bool.and_eq_true_iff.trans (and_congr (hds .text) (hms .none))
  | mkP1 | mkP2 | mkP3 | mkP4 | mkScore => exact .rfl
  | mkRds a =>
    simp only [stageOk, StageCheck, maskOperand]
    split <;> simp
  | gridRd a b c =>
    simp only [stageOk, StageCheck, gridOperand]
    split <;> simp [State.gridValid, MatrixStage.code_eq_nine]
  | _ => exact iff_of_true rfl trivial

/-- At the wrong stage an operation finds that out first, but for the block number of RS.SYN and RS.RDE. -/
theorem opOf_of_wrongStage {i : Instr} {s : State} (hblock : blockOk s i = true) (h : ¬ StageCheck s i) :
    opOf i s = seqError s := by
  have hnblk {n : Nat} (hds : 3 ≤ s.ds.code) (hb : (decide (s.ds.code < 3) || decide (n < s.nblk)) = true) : n < s.nblk :=
    (Bool.or_eq_true_iff.mp hb).elim (fun hlt => absurd hds (Nat.not_le.mpr (of_decide_eq_true hlt))) of_decide_eq_true
  cases i with
  | txtPush a | vsel | vset a | bsb | dcwPush a | dcwSeal | rsSplit | rsEcc a | rsEccAll | rsRdd a b | rsIlv | mxAlloc
  | mxFind | mxSep | mxAlign | mxTiming | mxDark | mxFmt | mxPlace | mxFixed | mxBuild | mkApply a | mkTryall | mkP1 | mkP2
  | mkP3 | mkP4 | mkScore | encodeJob => exact if_pos h
  | rsSyn a =>
    by_cases hds : 3 ≤ s.ds.code
    · exact opRsSyn_of_unmarked hds (hnblk hds hblock) (Bool.eq_false_iff.mpr fun hev => h ⟨hds, hev⟩)
    · exact if_pos hds
  | rsRde a b =>
    by_cases hds : 3 ≤ s.ds.code
    · exact (if_neg (not_not_intro hds)).trans
        ((if_neg (not_not_intro (hnblk hds hblock))).trans (if_pos fun hev => h ⟨hds, hev⟩))
    · exact if_pos hds
  | mkRds a =>
    simp only [StageCheck, not_forall] at h
    obtain ⟨k, hk, hsv⟩ := h
    have hnone : s.score[k] = none := Option.not_isSome_iff_eq_none.mp hsv
    simp only [opOf, opMkRds, hk, hnone]
  | gridRd a b c =>
    simp only [StageCheck, not_forall] at h
    obtain ⟨sel, hsel, hinvalid⟩ := h
    exact (opGridRd_of_selector hsel b c).trans (if_pos hinvalid)
  | _ => exact absurd trivial h

/-! ### The faults of an operation (R351, R353) -/

/-- The fault of a result, if there is one, is in the command's row of R351. -/
def RaisesListed (i : Instr) (r : Result) : Prop := ∀ u c n, r = .raised u c n → c ∈ raises i

theorem raisesListed_done {i : Instr} (u : State) (v : Nat) : RaisesListed i (.done u v) := fun _ _ _ h => nomatch h

/-- How the operation of a command faults: on the state it started in, with a fault its row lists, and with SequenceError
at the wrong stage alone. -/
structure FaultsOnEntry (i : Instr) (s : State) (r : Result) : Prop where
  state : ∀ u c n, r = .raised u c n → u = s
  listed : RaisesListed i r
  stage : ∀ u n, r = .raised u .sequenceError n → ¬ StageCheck s i

section Faults

variable {i : Instr} {s : State}

theorem FaultsOnEntry.done (u : State) (v : Nat) : FaultsOnEntry i s (.done u v) where
  state _ _ _ h := nomatch h
  listed := raisesListed_done u v
  stage _ _ h := nomatch h

theorem FaultsOnEntry.raised {c : FaultCode} {n : Nat} (hc : c ≠ .sequenceError) (hlisted : mayRaise c i = true) :
    FaultsOnEntry i s (.raised s c n) where
  state _ _ _ h := by cases h; rfl
  listed _ _ _ h := by cases h; exact List.contains_iff_mem.mp hlisted
  stage _ _ h := by cases h; exact absurd rfl hc

theorem FaultsOnEntry.seqError (hstage : ¬ StageCheck s i) (hlisted : mayRaise .sequenceError i = true) :
    FaultsOnEntry i s (seqError s) where
  state _ _ _ h := by cases h; rfl
  listed _ _ _ h := by cases h; exact List.contains_iff_mem.mp hlisted
  stage _ _ _ := hstage

/-- A check of the stage in front of the rest. -/
theorem FaultsOnEntry.stageFirst {p : Prop} [Decidable p] {r : Result} (hstage : p → ¬ StageCheck s i)
    (h : ¬ p → FaultsOnEntry i s r) (hlisted : mayRaise .sequenceError i = true := by rfl) :
    FaultsOnEntry i s (if p then Machine.seqError s else r) := by
  split
  next hp => exact .seqError (hstage hp) hlisted
  next hp => exact h hp

/-- Another check in front of the rest. -/
theorem FaultsOnEntry.guard {p : Prop} [Decidable p] {c : FaultCode} {n : Nat} {r : Result} (h : FaultsOnEntry i s r)
    (hc : c ≠ .sequenceError := by decide) (hlisted : mayRaise c i = true := by rfl) :
    FaultsOnEntry i s (if p then .raised s c n else r) := by
  split
  · exact .raised hc hlisted
  · exact h

theorem FaultsOnEntry.rangeError {n : Nat} (hlisted : mayRaise .rangeError i = true := by rfl) :
    FaultsOnEntry i s (rangeError n s) := .raised (by decide) hlisted

theorem faultsOnEntry_of_wrongStage (h : ¬ StageCheck s i) (hblock : blockOk s i = true := by rfl)
    (hlisted : mayRaise .sequenceError i = true := by rfl) : FaultsOnEntry i s (opOf i s) :=
  opOf_of_wrongStage hblock h ▸ .seqError h hlisted

/-- An operation that completes at its stage faults by the check of the stage alone. -/
theorem faultsOnEntry_of_done (hdone : StageCheck s i → ∃ u v, opOf i s = .done u v)
    (hblock : blockOk s i = true := by rfl) (hlisted : mayRaise .sequenceError i = true := by rfl) :
    FaultsOnEntry i s (opOf i s) := by
  by_cases h : StageCheck s i
  · obtain ⟨u, v, hop⟩ := hdone h
    exact hop ▸ .done u v
  · exact faultsOnEntry_of_wrongStage h hblock hlisted

end Faults

/-- A penalty needs a trial grid and nothing else. -/
theorem faultsOnEntry_penaltyOf {i : Instr} {s : State} (pen : Nat → Grid → Nat) (h : StageCheck s i ↔ s.tv = true)
    (hlisted : mayRaise .sequenceError i = true) : FaultsOnEntry i s (penaltyOf pen s) :=
  .stageFirst (mt h.mp) (fun _ => .done _ _) hlisted

/-- Every command but MX.BUILD and ENCODE faults before it has done anything. -/
theorem faultsOnEntry_opOf {i : Instr} (hbuild : i ≠ .mxBuild) (hencode : i ≠ .encodeJob) (s : State) :
    FaultsOnEntry i s (opOf i s) := by
  cases i with
  | mxBuild => exact absurd rfl hbuild
  | encodeJob => exact absurd rfl hencode
  | nop | jobNew | gfExp | gfMul | gfAdd | pGen | pSyn => exact .done _ _
  | txtRd | pMul => exact .guard (.done _ _)
  | pDiv => exact .guard (.guard (.done _ _))
  | mxAlloc | mxFind | mxSep | mxAlign | mxTiming | mxDark | mxFmt | mkScore | rsIlv =>
    exact .stageFirst id fun _ => .done _ _
  | txtPush | vsel | vset | dcwPush | dcwSeal | rsSplit | rsEcc | mxPlace => exact .stageFirst id fun _ => .guard (.done _ _)
  | rsRdd => exact .stageFirst id fun _ => .guard (.guard (.done _ _))
  | mkP1 | mkP2 | mkP3 | mkP4 => exact faultsOnEntry_penaltyOf _ .rfl rfl
  | rsEccAll => exact faultsOnEntry_of_done fun h => ⟨_, _, opRsEccAll_done h⟩
  | mxFixed => exact faultsOnEntry_of_done fun h => ⟨_, _, opMxFixed_done h.1 h.2⟩
  | mkTryall =>
    refine faultsOnEntry_of_done fun h => ?_
    obtain ⟨kept, score, -, -, hop⟩ := opMkTryall_done h
    exact ⟨_, _, hop⟩
  | srRd a | pClr a | pLen a | mkBit a =>
    simp only [opOf, opSrRd, opPClr, opPLen, opMkBit]
    split
    · exact .rangeError
    · exact .done _ _
  | tblRd a b c =>
    refine .guard ?_
    split
    · exact .rangeError
    · exact .guard (.done _ _)
  | bsb =>
    refine .stageFirst id fun _ => ?_
    split
    · exact .raised (by decide) rfl
    · exact .done _ _
  | bitsRd a | bitsRdb a | pPush a | pRd a =>
    simp only [opOf, opBitsRd, opBitsRdb, opPPush, opPRd]
    split
    · exact .rangeError
    · exact .guard (.done _ _)
  | gfLog a =>
    refine .guard ?_
    split
    · exact .raised (by decide) rfl
    · exact .done _ _
  | pMov a b =>
    rw [opOf, opPMov]
    split
    · exact .rangeError
    split
    · exact .rangeError
    · exact .done _ _
  | rsSyn a =>
    refine .stageFirst (mt And.left) fun _ => .guard ?_
    split
    next hnone => exact .seqError (fun h => by simpa [State.ev, hnone] using h.2) rfl
    · exact .done _ _
  | rsRde a b =>
    exact .stageFirst (mt And.left) fun _ => .guard (.stageFirst (mt And.right) fun _ => .guard (.done _ _))
  | mkApply a =>
    refine .stageFirst id fun _ => ?_
    split
    · exact .rangeError
    · exact .done _ _
  | mkRds a =>
    rw [opOf, opMkRds]
    split
    · exact .rangeError
    next k hk =>
      split
      next hnone => exact .seqError (fun h => by simpa [State.sv, hnone] using h k hk) rfl
      · exact .done _ _
  | gridRd a b c =>
    rw [opOf, opGridRd]
    split
    · exact .rangeError
    next sel hsel => exact .stageFirst (fun hinvalid h => hinvalid (h sel hsel)) fun _ => .guard (.guard (.done _ _))

theorem ne_macro_of_plain {i : Instr} (h : isMacro i = false) : i ≠ .mxBuild ∧ i ≠ .encodeJob := by
  constructor <;> rintro rfl <;> cases h

/-! ### The faults of a command with constituents (R352, R361) -/

theorem RaisesListed.mono {i j : Instr} {r : Result} (h : RaisesListed i r) (hsub : raises i ⊆ raises j) :
    RaisesListed j r :=
  fun _ _ _ hr => hsub (h _ _ _ hr)

theorem RaisesListed.respond {i : Instr} {r : Result} (h : RaisesListed i r) (f : State → Nat) :
    RaisesListed i (r.respond f) := by
  cases r with
  | done u v => exact raisesListed_done u (f u)
  | raised u c n => exact h

theorem RaisesListed.andThen {i : Instr} {r : Result} {k : State → Result} (h : RaisesListed i r)
    (hk : ∀ u, RaisesListed i (k u)) : RaisesListed i (r.andThen k) := by
  cases r with
  | done u v => exact hk u
  | raised u c n => exact h

theorem RaisesListed.chain {i : Instr} {is : List Instr} (his : ∀ j ∈ is, ∀ u, RaisesListed i (opOf j u)) {r : Result}
    (h : RaisesListed i r) : RaisesListed i (r.chain is) := by
  induction is generalizing r with
  | nil => exact h
  | cons j is ih =>
    obtain ⟨hj, his⟩ := List.forall_mem_cons.mp his
    exact ih his (h.andThen hj)

theorem raisesListed_opOf_mxBuild (s : State) : RaisesListed .mxBuild (opOf .mxBuild s) := by
  by_cases h : StageCheck s .mxBuild
  · rw [opOf, opMxBuild_eq h.2 h.1]
    exact (faultsOnEntry_opOf (i := .mxPlace) nofun nofun s.fixed).listed.mono (by decide) |>.respond _
  · exact (faultsOnEntry_of_wrongStage h).listed

theorem raisesListed_opOf_encodeJob (s : State) : RaisesListed .encodeJob (opOf .encodeJob s) := by
  by_cases h : StageCheck s .encodeJob
  · have hsub : ∀ j ∈ encodeSteps, raises j ⊆ raises .encodeJob := by decide
    rw [opOf, opEncodeJob_eq_chain h.1 h.2]
    refine .chain (fun j hj u => ?_) (raisesListed_done s 0)
    by_cases hbuild : j = .mxBuild
    · subst hbuild
      exact (raisesListed_opOf_mxBuild u).mono (hsub _ hj)
    · have hencode : j ≠ .encodeJob := by rintro rfl; simp [encodeSteps] at hj
      exact (faultsOnEntry_opOf hbuild hencode u).listed.mono (hsub j hj)
  · exact (faultsOnEntry_of_wrongStage h).listed

theorem raisesListed_opOf (i : Instr) (s : State) : RaisesListed i (opOf i s) := by
  by_cases hbuild : i = .mxBuild
  · subst hbuild
    exact raisesListed_opOf_mxBuild s
  by_cases hencode : i = .encodeJob
  · subst hencode
    exact raisesListed_opOf_encodeJob s
  · exact (faultsOnEntry_opOf hbuild hencode s).listed

/-! ### The answer to a command that faults (R350, R356) -/

theorem failed_inj {c d : FaultCode} : failed c = failed d → c = d := by
  cases c <;> cases d <;> decide

/-- A command of a live job that answers `ok = 0` has raised a fault. -/
theorem exec_faults {i : Instr} {s t : State} {r : Response} (hlive : live s) (h : exec i s = .next t)
    (hresp : t.resp = some r) (hr : r.ok = false) : ∃ u c n, opOf i s = .raised u c n ∧ t = u.faultEntry c n := by
  have hrun : t = (opOf i s).settle := by
    rw [exec_eq_run] at h
    split at h
    · exact (Host.Outcome.next.inj h).symm
    · exact (Host.Outcome.next.inj ((runLive_of_live hlive _).symm.trans h)).symm
  subst hrun
  cases hop : opOf i s with
  | done u v =>
    rw [hop] at hresp
    cases hresp
    cases hr
  | raised u c n => exact ⟨u, c, n, rfl, rfl⟩

/-- Settles O13: what an operation raises is in the row of its command, what a constituent raises too. -/
theorem raisesOnlyListedFaults : Obligations.RaisesOnlyListedFaults := by
  intro i s t c hlive hexec hresp
  obtain ⟨u, d, n, hop, rfl⟩ := exec_faults hlive hexec hresp rfl
  obtain rfl := failed_inj hresp
  exact List.contains_iff_mem.mpr (raisesListed_opOf i s _ _ _ hop)

/-- Settles O14: the operation finds the wrong stage first, and without constituents it raises SequenceError there
alone. -/
theorem wrongStageFaults : Obligations.WrongStageFaults := by
  intro i s hlive _ hblock
  refine ⟨fun hstage => ?_, fun hstage hmacro t hexec hresp => ?_⟩
  · exact exec_of_raised hlive (opOf_of_wrongStage hblock (mt (stageOk_iff s i).mpr (Bool.eq_false_iff.mp hstage)))
  · obtain ⟨u, c, n, hop, rfl⟩ := exec_faults hlive hexec hresp rfl
    obtain rfl := failed_inj hresp
    obtain ⟨hbuild, hencode⟩ := ne_macro_of_plain hmacro
    exact (faultsOnEntry_opOf hbuild hencode s).stage _ _ hop ((stageOk_iff s i).mp hstage)

end Sys2Proof.Machine

/-! ## Fault entry and the constituents of a command -/

namespace Sys2Proof.Machine

open Sys2Proof.Safety

/-! ### States that agree but for the response -/

theorem SameJob.refl (s : State) : SameJob s s := fun _ => rfl

theorem SameJob.complete {s t : State} (h : SameJob s t) (v : Nat) : SameJob s (t.complete v) := h

section SameJob

variable {s t : State} (h : SameJob s t)

include h

theorem SameJob.ds_eq : s.ds = t.ds := by simpa using congrArg State.ds (h ⟨true, 0⟩)

theorem SameJob.ms_eq : s.ms = t.ms := by simpa using congrArg State.ms (h ⟨true, 0⟩)

theorem SameJob.fixed : SameJob s.fixed t.fixed := fun a => by
  rw [← fixed_respondWith, h a, fixed_respondWith]

/-- Fault entry overwrites the response. -/
theorem SameJob.faultEntry_eq (hlive : live t) (c : FaultCode) (n : Nat) : s.faultEntry c n = trapped c n t := by
  have hanswer (u : State) : (u.respondWith ⟨true, 0⟩).faultEntry c n = u.faultEntry c n :=
    settle_answering (.raised u c n) ⟨true, 0⟩
  rw [← hanswer, h, hanswer, faultEntry_of_live hlive]

end SameJob

theorem eq_done_of_answering {r : Result} {u : State} {v : Nat}
    (h : ∀ a, r.answering a = (Result.done u v).answering a) : ∃ w, r = .done w v ∧ SameJob u w := by
  cases r with
  | done w m =>
    simp only [Result.answering, Result.done.injEq] at h
    obtain rfl := (h ⟨true, 0⟩).2
    exact ⟨w, rfl, fun a => (h a).1.symm⟩
  | raised w c m => cases h ⟨true, 0⟩

theorem eq_raised_of_answering {r : Result} {u : State} {c : FaultCode} {n : Nat}
    (h : ∀ a, r.answering a = (Result.raised u c n).answering a) : ∃ w, r = .raised w c n := by
  cases r with
  | done w m => cases h ⟨true, 0⟩
  | raised w d m =>
    obtain ⟨-, rfl, rfl⟩ := Result.raised.inj (h ⟨true, 0⟩)
    exact ⟨w, rfl⟩

/-! ### Chains of constituents (R361) -/

/-- A command that can stand in a chain: it does not look at the response given before it, it records no fault before it is
settled, and it faults on the state it started in. -/
structure Chainable (i : Instr) : Prop where
  answering : ∀ s a, opOf i (s.respondWith a) = (opOf i s).answering a
  flt : ∀ s, (opOf i s).state.flt = s.flt
  entry : ∀ s u c n, opOf i s = .raised u c n → u = s

theorem chainable_of_encodeStep {i : Instr} (hi : i ∈ encodeSteps) (hbuild : i ≠ .mxBuild) : Chainable i where
  answering s a := opOf_respondWith_of_encodeStep hi s a
  flt s := flt_opOf_of_encodeStep hi s
  entry s := (faultsOnEntry_opOf hbuild (by rintro rfl; simp [encodeSteps] at hi) s).state

theorem chainable_mxPlace : Chainable .mxPlace where
  answering := opMxPlace_respondWith
  flt := flt_opMxPlace
  entry s := (faultsOnEntry_opOf (i := .mxPlace) nofun nofun s).state

/-- The commands `is`, one by one from `s`, leave what the result says but for the response: all of them complete, or those
before one that faults. -/
def Follows (s : State) (is : List Instr) : Result → Prop
  | .done u _ => ∃ w, execAll is s = some w ∧ live w ∧ SameJob u w
  | .raised u c n => ∃ before j after w, is = before ++ j :: after ∧ execAll before s = some w ∧
      exec j w = .next (trapped c n w) ∧ u.faultEntry c n = trapped c n w

/-- The first of some commands that all complete is executed, and what follows starts where it ends. -/
theorem exists_exec_of_execAll_cons {i : Instr} {is : List Instr} {s t : State} (h : execAll (i :: is) s = some t) :
    ∃ u, exec i s = .next u ∧ ∀ js, execAll (i :: js) s = execAll js u := by
  obtain ⟨u, hu, -⟩ := exec_answered i s
  simp only [execAll, hu] at h ⊢
  split at h
  next hok => exact ⟨u, rfl, fun js => if_pos hok⟩
  · cases h

theorem execAll_append {is js : List Instr} {s w : State} (h : execAll is s = some w) :
    execAll (is ++ js) s = execAll js w := by
  induction is generalizing s with
  | nil => exact congrArg (execAll js) (Option.some.inj h)
  | cons i is ih =>
    obtain ⟨t, -, hrest⟩ := exists_exec_of_execAll_cons h
    rw [List.cons_append, hrest, ih ((hrest is).symm.trans h)]

section Follows

variable {s : State} {is js : List Instr} {r : Result}

theorem Follows.nil (hlive : live s) (v : Nat) : Follows s [] (.done s v) := ⟨s, rfl, hlive, .refl s⟩

theorem Follows.respond (h : Follows s is r) (f : State → Nat) : Follows s is (r.respond f) := by
  cases r <;> exact h

/-- One list of commands after another. -/
theorem Follows.andThen (h : Follows s is r) {k : State → Result}
    (hk : ∀ u v w, r = .done u v → live w → SameJob u w → Follows w js (k u)) :
    Follows s (is ++ js) (r.andThen k) := by
  cases r with
  | raised u c n =>
    obtain ⟨before, j, after, w, rfl, hrest⟩ := h
    exact ⟨before, j, after ++ js, w, by rw [List.append_assoc, List.cons_append], hrest⟩
  | done u v =>
    obtain ⟨w, hall, hlive, hsame⟩ := h
    have hnext := hk u v w rfl hlive hsame
    rw [andThen_done]
    cases hku : k u with
    | done u' v' =>
      rw [hku] at hnext
      obtain ⟨w', hall', hrest⟩ := hnext
      exact ⟨w', (execAll_append hall).trans hall', hrest⟩
    | raised u' c n =>
      rw [hku] at hnext
      obtain ⟨before, j, after, w', rfl, hall', hrest⟩ := hnext
      exact ⟨is ++ before, j, after, w', (List.append_assoc ..).symm, (execAll_append hall).trans hall', hrest⟩

/-- One command, on a state that agrees with the chain's but for the response. -/
theorem follows_opOf {i : Instr} (hi : Chainable i) {u w : State} (hlive : live w) (hsame : SameJob u w) :
    Follows w [i] (opOf i u) := by
  have hanswer (a : Response) : (opOf i w).answering a = (opOf i u).answering a := by
    rw [← hi.answering, ← hi.answering, hsame a]
  cases hu : opOf i u with
  | done u' n =>
    obtain ⟨w', hw, hsame'⟩ := eq_done_of_answering fun a => hu ▸ hanswer a
    have hlive' : live w' := by simpa [hw] using (hi.flt w).trans hlive
    exact ⟨w'.complete n, execAll_cons hlive hw, hlive', hsame'.complete n⟩
  | raised u' c n =>
    obtain ⟨w', hw⟩ := eq_raised_of_answering fun a => hu ▸ hanswer a
    obtain rfl := hi.entry w w' c n hw
    obtain rfl := hi.entry u u' c n hu
    exact ⟨[], i, [], w', rfl, rfl, exec_of_raised hlive hw, hsame.faultEntry_eq hlive c n⟩

/-- Chainable commands one after another. -/
theorem Follows.chain (h : Follows s is r) (hjs : ∀ j ∈ js, Chainable j) : Follows s (is ++ js) (r.chain js) := by
  induction js generalizing is r with
  | nil => rwa [List.append_nil]
  | cons j js ih =>
    obtain ⟨hj, hjs⟩ := List.forall_mem_cons.mp hjs
    rw [List.append_cons]
    exact ih (h.andThen fun _ _ _ _ hlive hsame => follows_opOf hj hlive hsame) hjs

/-- MX.BUILD at its stage, taken down to the steps of the builder (R263). -/
theorem follows_opMxBuild {u w : State} (hlive : live w) (hsame : SameJob u w) (hds : u.ds = .final) (hms : u.ms = .none) :
    Follows w (fixedSteps ++ [.mxPlace]) (opMxBuild u) := by
  have hready : 1 ≤ w.ds.code := by rw [← hsame.ds_eq, hds]; decide
  have hfixed : Follows w fixedSteps (.done u.fixed 0) :=
    ⟨_, execAll_fixedSteps hlive hready (hsame.ms_eq ▸ hms), (buildFrame_fixed w).flt.trans hlive, hsame.fixed.complete 0⟩
  rw [opMxBuild_eq hds hms]
  exact (hfixed.chain (js := [.mxPlace]) fun j hj => List.mem_singleton.mp hj ▸ chainable_mxPlace).respond _

end Follows

/-! ### ENCODE (R333) -/

/-- The commands of ENCODE on the data path. -/
def dataSteps : List Instr := [.vsel, .bsb, .rsSplit, .rsEccAll, .rsIlv]

theorem chainable_of_dataStep {i : Instr} (hi : i ∈ dataSteps) : Chainable i := by
  have hsteps : encodeSteps = dataSteps ++ [.mxBuild, .mkTryall] := rfl
  exact chainable_of_encodeStep (hsteps ▸ List.mem_append_left _ hi) (by rintro rfl; simp [dataSteps] at hi)

theorem ms_guard {s : State} {c : Prop} [Decidable c] {code : FaultCode} {n : Nat} {r : Result}
    (h : r.state.ms = s.ms) : (if c then .raised s code n else r).state.ms = s.ms := by
  split
  · rfl
  · exact h

theorem ms_eccBlocks (s : State) (blocks : List Nat) : (s.eccBlocks blocks).ms = s.ms := by
  induction blocks generalizing s with
  | nil => rfl
  | cons b blocks ih => exact (ih (s.eccBlock b)).trans (by rw [eccBlock_eq])

/-- The data path does not move the matrix sequencer. -/
theorem ms_opOf_of_dataStep {i : Instr} (hi : i ∈ dataSteps) (s : State) : (opOf i s).state.ms = s.ms := by
  simp only [dataSteps, List.mem_cons, List.not_mem_nil, or_false] at hi
  obtain rfl | rfl | rfl | rfl | rfl := hi
  · exact ms_guard (ms_guard rfl)
  · refine ms_guard ?_
    cases buildStream s.rom s.text s.row <;> rfl
  · exact ms_guard (ms_guard rfl)
  · by_cases hds : s.eccStage = true
    · rw [opOf, opRsEccAll_done hds]
      exact ms_eccBlocks s _
    · rw [opOf, opRsEccAll, if_pos hds]
      rfl
  · exact ms_guard rfl

theorem ms_chain_of_dataSteps {is : List Instr} (his : ∀ i ∈ is, i ∈ dataSteps) (r : Result) :
    (r.chain is).state.ms = r.state.ms := by
  induction is generalizing r with
  | nil => rfl
  | cons i is ih =>
    obtain ⟨hi, his⟩ := List.forall_mem_cons.mp his
    refine (ih his (r.andThen (opOf i))).trans ?_
    cases r with
    | done u v => exact ms_opOf_of_dataStep hi u
    | raised u c n => rfl

/-- A chain that ends with RS.ILV completes with the final sequence. -/
theorem ds_of_andThen_opRsIlv {r : Result} {u : State} {n : Nat} (h : r.andThen opRsIlv = .done u n) : u.ds = .final := by
  cases r with
  | raised s c m => cases h
  | done s m =>
    rw [andThen_done, opRsIlv] at h
    split at h
    · cases h
    · cases h
      rfl

theorem follows_opEncodeJob {s : State} (hlive : live s) (hds : s.ds = .text) (hms : s.ms = .none) :
    Follows s (constituents s .encodeJob) (opEncodeJob s) := by
  have hdata : Follows s dataSteps ((Result.done s 0).chain dataSteps) :=
    (Follows.nil hlive 0).chain fun _ => chainable_of_dataStep
  have hbuild : Follows s (dataSteps ++ (fixedSteps ++ [.mxPlace]))
      (((Result.done s 0).chain dataSteps).andThen opMxBuild) := by
    refine hdata.andThen fun u v w hdone hlive hsame => follows_opMxBuild hlive hsame (ds_of_andThen_opRsIlv hdone) ?_
    have hkept := ms_chain_of_dataSteps (fun _ => id) (Result.done s 0)
    rw [hdone] at hkept
    exact hkept.trans hms
  rw [opEncodeJob_eq_chain hds hms]
  exact hbuild.chain (js := [.mkTryall]) fun j hj =>
    List.mem_singleton.mp hj ▸ chainable_of_encodeStep (by simp [encodeSteps]) nofun

/-! ### Fault entry (R355, R356) -/

/-- A command faults on the state it started in, or as one of its constituents does. -/
theorem eq_or_follows_of_raised {i : Instr} {s u : State} {c : FaultCode} {n : Nat} (hlive : live s)
    (hop : opOf i s = .raised u c n) : u = s ∨ Follows s (constituents s i) (.raised u c n) := by
  by_cases hbuild : i = .mxBuild
  · subst hbuild
    by_cases h : StageCheck s .mxBuild
    · exact .inr (hop ▸ follows_opMxBuild hlive (.refl s) h.2 h.1)
    · exact .inl ((faultsOnEntry_of_wrongStage h).state u c n hop)
  by_cases hencode : i = .encodeJob
  · subst hencode
    by_cases h : StageCheck s .encodeJob
    · exact .inr (hop ▸ follows_opEncodeJob hlive h.1 h.2)
    · exact .inl ((faultsOnEntry_of_wrongStage h).state u c n hop)
  · exact .inl ((faultsOnEntry_opOf hbuild hencode s).state u c n hop)

theorem execAll_keeps_channels {is : List Instr} {s u : State} (h : execAll is s = some u) :
    u.cmd = s.cmd ∧ u.cc = s.cc := by
  induction is generalizing s with
  | nil =>
    obtain rfl := Option.some.inj h
    exact ⟨rfl, rfl⟩
  | cons i is ih =>
    obtain ⟨t, ht, hrest⟩ := exists_exec_of_execAll_cons h
    obtain ⟨hcc, hcmd, -⟩ := exec_keeps_channels ht
    obtain ⟨hcmd', hcc'⟩ := ih ((hrest is).symm.trans h)
    exact ⟨hcmd'.trans hcmd, hcc'.trans hcc⟩

/-- Settles O12: a fault is entered on the state the operation carries, the one it started in or what the constituents
before the one that faults have left. -/
theorem faultEntryFrame : Obligations.FaultEntryFrame := by
  intro i s t r hlive hexec hresp hr
  obtain ⟨u, c, n, hop, rfl⟩ := exec_faults hlive hexec hresp hr
  have hval : r.val = zext32 c.code := by rw [← Option.some.inj hresp]
  refine ⟨?_, fun hmacro => ⟨c, n, ?_⟩⟩
  · obtain rfl | ⟨before, j, after, w, hsplit, hall, hfault, hentry⟩ := eq_or_follows_of_raised hlive hop
    · exact ⟨[], u, c, n, .inl rfl, rfl, rfl, rfl, faultEntry_of_live hlive c n, hval⟩
    · obtain ⟨hcmd, hcc⟩ := execAll_keeps_channels hall
      exact ⟨before, w, c, n, .inr ⟨j, after, hsplit, hentry ▸ hfault⟩, hall, hcmd, hcc, hentry, hval⟩
  · obtain ⟨hbuild, hencode⟩ := ne_macro_of_plain hmacro
    obtain rfl := (faultsOnEntry_opOf hbuild hencode s).state u c n hop
    exact faultEntry_of_live hlive c n

end Sys2Proof.Machine
